-- ==== Sys2Proof/Word.lean ====
section
/-! DEFINITION. The words of the part: bytes, 64-bit serials and digests, and the station and key-slot numbers. -/

namespace Sys2Proof

/-- One byte of a frame, a record or a transfer. -/
abbrev Byte := BitVec 8

/-- A cartridge's 64-bit serial number (R4, R30). -/
abbrev Serial := BitVec 64

/-- A 64-bit challenge or digest (R33, R64, R68). -/
abbrev Digest := BitVec 64

/-- A station number, 0 to 7 (R3). -/
abbrev Station := Fin 8

/-- A key slot number, 0 to 3 (R72). -/
abbrev KeySlot := Fin 4

/-- Where an event happened: a station, or `none` for the station number 15 that names no station (R162). -/
abbrev Place := Option Station

/-- The eight stations in station order. -/
def stationList : List Station := [0, 1, 2, 3, 4, 5, 6, 7]

end Sys2Proof
end

