-- ==== Sys2Proof/Config.lean ====
section
/-! DEFINITION. What the manual leaves to the silicon, as constants without a body (free values), and the fixed limits that the
rules give as numbers. -/

namespace Sys2Proof.Config

/-- The digest mapping of R33 and R68: "a one-way mapping fixed in silicon", not given in the manual. It takes the secret (none
where no secret may be taken, R72), the serial, the challenge, the used figure and the fill generation, in that order. Equal
inputs give equal digests; nothing else is known of it. Log entry 1. -/
opaque digest (secret : Option Nat) (serial : Serial) (challenge : Digest) (used : Nat) (fillGeneration : Nat) : Digest

/-- The n-th value drawn from the on-chip random source (R64). Every 64-bit value can be drawn. Log entry 2. -/
opaque randomDraw (n : Nat) : BitVec 64

/-- The value a BUS_FAULT raise carries when the count of failed recoveries no longer fits the 32-bit value field; the manual
states none (R162, R163). Log entry 3. -/
opaque oversizeFailureCount (n : Nat) : BitVec 32

/-- Whether, for a job that is to be cut for one reason and then for another before its byte boundary, the later reason gives its result;
the manual does not say which does (R22, R60). The argument says whether the first reason was a removal. Log entry 15. -/
opaque laterCutHolds (removalFirst : Bool) : Bool

/-- The largest value of a whole-nanolitre figure: they saturate here (R1, R120). -/
def maxNl : Nat := 4294967295

/-- The largest lifetime drop count (R108, R111). -/
def maxLifetime : Nat := 281474976710655

/-- Volume units in a nanolitre (R118). -/
def vuPerNl : Nat := 16000

/-- Entries the event queue can hold (R164). -/
def eventSlots : Nat := 32

/-- Entries the departed-cartridge table can hold (R145). -/
def departedSlots : Nat := 24

/-- Host jobs that may exist, counting the results that wait (R42). -/
def hostJobLimit : Nat := 4

/-- Bits in a tally frame (section 5.1). -/
def frameBits : Nat := 368

/-- Committed cycles the metering unit's pending store can hold (R110). -/
def pendingCycleSlots : Nat := 2

/-- Frames the receive buffer can hold (R173). -/
def rxSlots : Nat := 2

end Sys2Proof.Config
end

