-- ==== Sys2Proof/Syntax.lean ====
section
/-! DEFINITION. The commands of the part: one constructor for every row of spec/opcode_table.json, in the table's order.

A row is a step of the part, whole and indivisible. Three kinds of row occur. A row named after a pin, a bus or a line event
carries what the event brings from outside (a byte, a level, what a tag answered). A row named after a timer carries the station or
the job whose timer it is. A row named after a host link request carries no operand: its operands are the fields of the request
frame's body that TAKE_REQUEST has handed to the owning block (R177 step 6, R193), and they are read from there. -/

namespace Sys2Proof

/-- How a transaction of a kind without a status phase ended on the bus (R47). -/
inductive TransferEnd where
  /-- Every byte the engine wrote was acknowledged, and `data` is every byte it meant to read. -/
  | done (data : List Byte)
  /-- An acknowledge that was due did not come: the address or a written byte met a NACK. -/
  | nack
  deriving DecidableEq, Repr

/-- The commands, one per row of the table. -/
inductive Instr where
  /-- POWER_ON (R187): power is applied. -/
  | powerOn
  /-- POWER_LOSS (R186): power is lost. `landed` says whether a retained-store write in progress left its item new. -/
  | powerLoss (landed : Bool)
  /-- RESET_N_FALL (R187): RESET_N goes low. `landed` as for POWER_LOSS. -/
  | resetNFall (landed : Bool)
  /-- RESET_N_RISE (R187): RESET_N goes high. -/
  | resetNRise
  /-- HL_FRAME_COMPLETE (R174, R176): the frame whose bytes the receiver holds is complete. -/
  | hlFrameComplete
  /-- GAP_TIMER_EXPIRY (R175). -/
  | gapTimerExpiry
  /-- LINE_ERROR (R175): a byte with a low stop bit, or a break. -/
  | lineError
  /-- TAKE_REQUEST (R177). -/
  | takeRequest
  /-- REPLY_SENT (R176, R191): the last byte of the oldest formed reply has been sent. -/
  | replySent
  /-- IDENTIFY (R181). -/
  | identify
  /-- GET_STATUS (R182). -/
  | getStatus
  /-- CONFIG_PART (R183). -/
  | configPart
  /-- GET_STATION (R25). -/
  | getStation
  /-- CONFIG_STATION (R26). -/
  | configStation
  /-- RELEASE (R19). -/
  | release
  /-- TAG_READ (R57). -/
  | tagRead
  /-- TAG_WRITE (R58). -/
  | tagWrite
  /-- GET_JOB (R59). -/
  | getJob
  /-- ABORT_JOB (R60). -/
  | abortJob
  /-- AUTHENTICATE (R81). -/
  | authenticate
  /-- ADMIT (R17). -/
  | admitCartridge
  /-- REVOKE_KEY (R73). -/
  | revokeKey
  /-- CONFIG_LINK (R101). -/
  | configLink
  /-- READ_LINK (R105). -/
  | readLink
  /-- TALLY (R104). -/
  | tally
  /-- SET_VOLUMES (R123). -/
  | setVolumes
  /-- LIST_DEPARTED (R159). -/
  | listDeparted
  /-- FORGET (R160). -/
  | forget
  /-- GET_EVENTS (R169). -/
  | getEvents
  /-- SET_MASK (R168). -/
  | setMask
  /-- SHUTDOWN (R189). -/
  | shutdown
  /-- RESTART (R191). -/
  | restart
  /-- RETAINED_STORE_WRITE_COMPLETE (R186). -/
  | retainedStoreWriteComplete
  /-- PRESENCE_ASSERTED (R10): the station's presence input asserts. -/
  | presenceAsserted (station : Station)
  /-- PRESENCE_DEASSERTED (R10, R21): the station's presence input deasserts. -/
  | presenceDeasserted (station : Station)
  /-- PRESENCE_REASSERTED (R21): the presence input asserts again while the removal timer runs. -/
  | presenceReasserted (station : Station)
  /-- SEAT_TIMER_EXPIRY (R10). -/
  | seatTimerExpiry (station : Station)
  /-- REMOVAL_TIMER_EXPIRY (R22). -/
  | removalTimerExpiry (station : Station)
  /-- INK_SENSE_CHANGE (R156): the station's INK input changes to `asserted`. -/
  | inkSenseChange (station : Station) (asserted : Bool)
  /-- INK_SETTLE_EXPIRY (R156). -/
  | inkSettleExpiry (station : Station)
  /-- ARBITER_START_JOB (R45). -/
  | arbiterStartJob
  /-- JOB_TRANSACTION_END (R47): the ACTIVE WAKE, READ_ID, CHALLENGE or HOST_READ job's transaction ends. -/
  | jobTransactionEnd (how : TransferEnd)
  /-- RESPONSE_POLL (R48): the ACTIVE RESPONSE job meets an address NACK. -/
  | responsePoll
  /-- POLL_TIMER_EXPIRY (R48): the poll timer of the POLLING job with this handle expires. -/
  | pollTimerExpiry (handle : Nat)
  /-- RETRY_TIMER_EXPIRY (R50): the retry timer of the job in RETRY with this handle expires. -/
  | retryTimerExpiry (handle : Nat)
  /-- WRITE_PHASE_END (R49): the write phase ends with a stop, every byte acknowledged, or with a NACK. -/
  | writePhaseEnd (acknowledged : Bool)
  /-- STATUS_POLL (R49): the status phase meets an address NACK. -/
  | statusPoll
  /-- STATUS_POLL_WAIT_EXPIRY (R49): the poll spacing between two status polls ends. -/
  | statusPollWaitExpiry
  /-- STATUS_READ (R49): the write status byte is read. -/
  | statusRead (status : Byte)
  /-- JOB_CUT_AT_BYTE_BOUNDARY (R46): the ACTIVE job that removal, ABORT_JOB or SHUTDOWN named meets its byte boundary. -/
  | jobCutAtByteBoundary
  /-- ARBITRATION_LOST (R53). -/
  | arbitrationLost
  /-- FOREIGN_START (R52): a start condition not made by the engine. -/
  | foreignStart
  /-- STOP_CONDITION (R52): a stop condition from another master. -/
  | stopCondition
  /-- FOREIGN_TIMEOUT (R52): FOREIGN has lasted 200 ms. -/
  | foreignTimeout
  /-- STUCK_BUS (R54): CBD has been low for 25 ms. -/
  | stuckBus
  /-- RECOVERY_END (R54): recovery ends; `cbdHigh` is what CBD reads then. -/
  | recoveryEnd (cbdHigh : Bool)
  /-- FAULT_RETRY_EXPIRY (R55): the 100 ms retry in FAULT; `cbdHigh` is what CBD reads at its end. -/
  | faultRetryExpiry (cbdHigh : Bool)
  /-- VERIFY_COMPUTATION_START (R69). -/
  | verifyComputationStart
  /-- VERIFY_COMPLETION (R70). -/
  | verifyCompletion
  /-- HUNT_MATCH (R88). -/
  | huntMatch
  /-- CANDIDATE_TEST (R89). -/
  | candidateTest
  /-- CONFIRM_TEST (R90). -/
  | confirmTest
  /-- FRAME_JUDGED (R91). -/
  | frameJudged
  /-- FRAME_POSITION_COMPLETE (R93). -/
  | framePositionComplete
  /-- CYCLE_END (R94). -/
  | cycleEnd
  /-- CYCLE_TIMER_EXPIRY (R97). -/
  | cycleTimerExpiry
  /-- SILENCE_TIMER_EXPIRY (R92). -/
  | silenceTimerExpiry
  /-- CYCLE_COMPUTATION (R110). -/
  | cycleComputation
  /-- W_DELIVERY (R119): the station controller takes the station's oldest delivery. -/
  | wDelivery (station : Station)
  /-- TLC_EDGE (R84, R92): an edge on TLC, rising or falling, with the level TLD then has. -/
  | tlcEdge (rising : Bool) (tld : Bool)
  /-- HL_BYTE_RECEIVED (R174): a byte arrives on HL_RX with a good stop bit. -/
  | hlByteReceived (byte : Byte)
  /-- RESPONSE_READ_END (R48): the ACTIVE RESPONSE job whose address was acknowledged ends its read with the 8 response bytes,
  most significant first, or, as `none`, on a NACK of the offset byte. -/
  | responseReadEnd (response : Option Digest)
  deriving DecidableEq, Repr

end Sys2Proof
end

