-- ==== Sys2Proof/WellFormed.lean ====
section
/-! DEFINITION. Which commands are well formed: the operands that a bus transfer or a timer of the part can carry. -/

namespace Sys2Proof

/-- A job handle that the engine can have given (R41: 1 to 255). -/
def wfHandle (h : Nat) : Bool := 1 ≤ h && h ≤ 255

/-- The bytes one transaction can have read: at most the 36 of READ_ID (R47). -/
def TransferEnd.wf : TransferEnd → Bool
  | .done data => data.length ≤ 36
  | .nack => true

/-- A command whose operands lie in the ranges the manual gives them. Stations, levels and bytes are in range by their types. -/
def Instr.WellFormed : Instr → Bool
  | .jobTransactionEnd how => how.wf
  | .pollTimerExpiry handle => wfHandle handle
  | .retryTimerExpiry handle => wfHandle handle
  | .powerOn | .powerLoss _ | .resetNFall _ | .resetNRise | .hlFrameComplete | .gapTimerExpiry | .lineError | .takeRequest
  | .replySent | .identify | .getStatus | .configPart | .getStation | .configStation | .release | .tagRead | .tagWrite
  | .getJob | .abortJob | .authenticate | .admitCartridge | .revokeKey | .configLink | .readLink | .tally | .setVolumes
  | .listDeparted | .forget | .getEvents | .setMask | .shutdown | .restart | .retainedStoreWriteComplete
  | .presenceAsserted _ | .presenceDeasserted _ | .presenceReasserted _ | .seatTimerExpiry _ | .removalTimerExpiry _
  | .inkSenseChange _ _ | .inkSettleExpiry _ | .arbiterStartJob | .responsePoll | .writePhaseEnd _ | .statusPoll
  | .statusPollWaitExpiry | .statusRead _ | .jobCutAtByteBoundary | .arbitrationLost | .foreignStart | .stopCondition
  | .foreignTimeout | .stuckBus | .recoveryEnd _ | .faultRetryExpiry _ | .verifyComputationStart | .verifyCompletion
  | .huntMatch | .candidateTest | .confirmTest | .frameJudged | .framePositionComplete | .cycleEnd | .cycleTimerExpiry
  | .silenceTimerExpiry | .cycleComputation | .wDelivery _ | .tlcEdge _ _ | .hlByteReceived _ | .responseReadEnd _ => true

end Sys2Proof
end

