-- ==== Sys2Proof/Decode.lean ====
section
/-! DEFINITION. The part is a block and has no instruction decoder: no row of spec/opcode_table.json gives bits, so no word spells a
command. Its commands are the events of its pins, lines, timers and blocks; request frames on the host link are read by
Machine/Operands.lean. Log entry 4. -/

namespace Sys2Proof

/-- The command that a word spells by the table's bits: the table gives no row any bits, so there is none. -/
def decodeTableWord (_nbits _w : Nat) : Option Instr := none

end Sys2Proof
end

