-- ==== Sys2Proof/Machine/Types.lean ====
section
/-! DEFINITION. The kinds of state the nine blocks hold: the named quantities (R194's table), the records, and the entries of the
queues and tables. -/

namespace Sys2Proof.Machine

/-! ## Named quantities -/

/-- The eight lifecycle states (R7). -/
inductive Lifecycle where
  | vacant | seated | identifying | authenticating | active | quarantined | departing | released
  deriving DecidableEq, Repr

/-- The trust classes (R76). -/
inductive TrustClass where
  | pending | genuine | refilled | unverified
  deriving DecidableEq, Repr

/-- The class a departed entry, a checkpoint or a RESTORED origin carries (R141, R145, R151). -/
inductive AccountClass where
  | genuine | refilled
  deriving DecidableEq, Repr

/-- The nine quarantine causes (R8). -/
inductive QuarantineCause where
  | noTag | malformed | wrongInk | duplicate | keyAbsent | keyRevoked | noResponse | badResponse | refill
  deriving DecidableEq, Repr

/-- The six kinds of evidence (section 8.3). -/
inductive EvidenceKind where
  | rollback | emptyReturn | marked | overdraw | senseRise | conflict
  deriving DecidableEq, Repr

/-- The four level bands (R127). -/
inductive LevelBand where
  | ok | low | critical | empty
  deriving DecidableEq, Repr

/-- Where a cartridge record's figures come from; RESTORED carries the departed entry's class (R150, R151). -/
inductive Origin where
  | new
  | restored (carried : AccountClass)
  deriving DecidableEq, Repr

/-- The steps of an authentication (R62). -/
inductive AuthStep where
  | read | challenge | response | verify
  deriving DecidableEq, Repr

/-- How an attempt ended that did not end the authentication (R66). -/
inductive AttemptEnding where
  | noAnswer | mismatch
  deriving DecidableEq, Repr

/-- The seven kinds of bus job (R40). -/
inductive JobKind where
  | wake | readId | challenge | response | writeUsage | hostRead | hostWrite
  deriving DecidableEq, Repr

/-- The classes of bus job; the arbiter prefers the lowest (R40, R45). -/
inductive JobClass where
  | wake | depart | auth | writeBack | host
  deriving DecidableEq, Repr

/-- The states of a bus job (R40). -/
inductive JobState where
  | queued | active | polling | retry
  deriving DecidableEq, Repr

/-- The results a job can end with (R50). -/
inductive JobResult where
  | done | nack | timeout | refused | busFault | removed | aborted
  deriving DecidableEq, Repr

/-- What last made a job fail or lose the bus (R40). -/
inductive LastFailure where
  | none | nack | timeout | busFault | lost
  deriving DecidableEq, Repr

/-- A failed attempt's failure (R50). -/
inductive AttemptFailure where
  | nack | timeout | busFault
  deriving DecidableEq, Repr

/-- Key slot states (R72). -/
inductive KeyState where
  | empty | live | revoked
  deriving DecidableEq, Repr

/-- The operating state (R187, R189). -/
inductive OperatingState where
  | operating | halted
  deriving DecidableEq, Repr

/-- Where cycles come from (R87). -/
inductive TallySource where
  | link | host
  deriving DecidableEq, Repr

/-- The bus condition (R52). -/
inductive BusCondition where
  | free | own | foreign | recovery | fault
  deriving DecidableEq, Repr

/-- The refill policy (R154). -/
inductive RefillPolicy where
  | warn | quarantine
  deriving DecidableEq, Repr

/-- The bus speeds (R46). -/
inductive BusSpeed where
  | khz100 | khz400
  deriving DecidableEq, Repr

/-- Severities, ranked ALERT above WARNING above NOTICE (R162). -/
inductive Severity where
  | alert | warning | notice
  deriving DecidableEq, Repr

/-- The eleven status codes of replies (R180). -/
inductive Status where
  | ok | queued | badFrame | unknownKind | badLength | badStation | wrongState | queueFull | refused | notFound | halted
  deriving DecidableEq, Repr

/-- The 25 event kinds, in the order of their codes (R163). -/
inductive EventKind where
  | quarantined | refillSuspected | cartridgeEmpty | reservoirDry | linkLost | meterGap | busFault | levelBand
  | writebackFailed | meterClamped | usedSaturated | departedEvicted | tempFault | uncalibrated | busBlocked
  | linkSilent | linkErrors | seated | vacated | activated | recheckPassed | linkSync | tempBand | jobDone | busRecovered
  deriving DecidableEq, Repr

/-- The conditions: an event kind that stands for a lasting state, at a station where it has one (R167). -/
inductive Condition where
  | reservoirDry (station : Station)
  | tempFault (station : Station)
  | uncalibrated (station : Station)
  | linkLost
  | meterGap
  | busFault
  | busBlocked
  | linkSilent
  | linkErrors
  deriving DecidableEq, Repr

/-- The 23 request kinds, in the order of their KIND codes (section 10.6). -/
inductive RequestKind where
  | identify | getStatus | configPart | getStation | configStation | release | tagRead | tagWrite | getJob | abortJob
  | authenticate | admitCartridge | revokeKey | configLink | readLink | tally | setVolumes | listDeparted | forget
  | getEvents | setMask | shutdown | restart
  deriving DecidableEq, Repr

/-! ## The station record (R3) -/

/-- The two flags a usage record carries: bit 0 the empty latch, bit 1 the refill mark (R38). -/
structure TagFlags where
  emptyLatch : Bool
  refillMark : Bool
  deriving DecidableEq, Repr

/-- A set of evidence kinds. -/
structure EvidenceSet where
  rollback : Bool
  emptyReturn : Bool
  marked : Bool
  overdraw : Bool
  senseRise : Bool
  conflict : Bool
  deriving DecidableEq, Repr

/-- What a sound identity read records together: the identity fields, but for the capacity, which ADMIT can also supply, and the
tag figures: the tag used at arrival and the tag's flags as read (R4, R37, R135). -/
structure Identity where
  serial : Serial
  inkType : Nat
  keyIndex : Nat
  fillGeneration : Nat
  tagUsed : Nat
  tagFlags : TagFlags
  deriving DecidableEq, Repr

/-- The figures that become present together: used, last_written and the write-back base (R4, R135). -/
structure Account where
  used : Nat
  lastWritten : Nat
  baseUsed : Nat
  baseFlags : TagFlags
  deriving DecidableEq, Repr

/-- The cartridge record (R4). -/
structure CartridgeRecord where
  identity : Option Identity
  capacity : Option Nat
  trust : TrustClass
  authenticated : Bool
  cause : Option QuarantineCause
  origin : Option Origin
  evidence : EvidenceSet
  account : Option Account
  emptyLatch : Bool
  refillMark : Bool
  band : Option LevelBand
  bandChanged : Bool
  overdrawRaised : Bool
  emptyRaised : Bool
  usedSaturated : Bool
  deriving DecidableEq, Repr

/-- The ink-sense debouncer and the baseline (R156, R157). `true` is PRESENT. The debouncer runs exactly while the station's
ink-sense enable is on; `settle` says whether its settle timer runs. -/
structure InkSense where
  candidate : Bool
  settle : Bool
  reading : Option Bool
  baseline : Option Bool
  deriving DecidableEq, Repr

/-- One count per drop class, in the order SMALL, MEDIUM, LARGE, SERVICE. -/
structure Drops where
  small : Nat
  medium : Nat
  large : Nat
  service : Nat
  deriving DecidableEq, Repr

/-- The metering fields (R108). The uncalibrated flag is set exactly while the volume table is invalid (R109), so the table's
`valid` holds it. -/
structure Metering where
  fraction : Nat
  lifetime : Drops
  lastTemp : Option Nat
  band : Fin 5
  bandChanged : Bool
  tempFault : Bool
  clamped : Bool
  converted : Nat
  charged : Nat
  debt : Nat
  dryOverflow : Nat
  deriving DecidableEq, Repr

/-- The volume table: four drop volumes and five band factors (R109). -/
structure VolumeTable where
  valid : Bool
  volumes : Drops
  factors : Vector Nat 5
  deriving DecidableEq, Repr

/-- The part of the station configuration that CONFIG_STATION writes (R6). -/
structure StationConfig where
  expectedInk : Nat
  defaultCapacity : Nat
  swapReserve : Nat
  cycleCeiling : Nat
  inkSenseEnable : Bool
  deriving DecidableEq, Repr

/-- The station record (R3). -/
structure StationRec where
  lifecycle : Lifecycle
  seatTimer : Bool
  removalTimer : Bool
  ink : InkSense
  cartridge : Option CartridgeRecord
  meter : Metering
  config : StationConfig
  volumes : VolumeTable
  deriving DecidableEq, Repr

/-! ## The cartridge bus engine -/

/-- Why an ACTIVE job is to be cut at its next byte boundary (R46). -/
inductive CutReason where
  | removal | abort | shutdown
  deriving DecidableEq, Repr

/-- Where an ACTIVE job stands in its attempt. Kinds without a status phase stay in `transaction`; WRITE_USAGE and HOST_WRITE go
from `transaction` (the write phase) to `between` (the bus released, the status phase to be opened), `status` (the status
phase on the bus) and `statusWait` (waiting one poll spacing after a status poll) (R49). -/
inductive Phase where
  | transaction | between | status | statusWait
  deriving DecidableEq, Repr

/-- A bus job (R40). The enqueue order is the job's place in the queue's list. `timer` is the poll, retry or status poll wait timer
with its length in ms while it runs. `written` is the used figure and flags that a WRITE_USAGE job has composed (R51).
`disowned` marks a withdrawn or abandoned job, whose result its owner discards (R44). -/
structure Job where
  handle : Nat
  target : Option Station
  kind : JobKind
  cls : JobClass
  state : JobState
  attempts : Nat
  polls : Nat
  payload : Option (List Byte)
  offset : Nat
  length : Nat
  lastFailure : LastFailure
  followOn : Option JobClass
  timer : Option Nat
  phase : Phase
  written : Option (Nat × TagFlags)
  disowned : Bool
  cut : Option CutReason
  deriving DecidableEq, Repr

/-- An entry of the host job result table (R56). -/
structure HostResult where
  handle : Nat
  station : Station
  kind : JobKind
  result : JobResult
  lastFailure : LastFailure
  data : List Byte
  deriving DecidableEq, Repr

/-- One element of a transaction as the engine drives it (R39, R46). -/
inductive BusElement where
  /-- A start condition; with the bus already owned it is a repeated start. -/
  | start
  /-- A byte the engine sends, most significant bit first. -/
  | send (byte : Byte)
  /-- A byte the engine reads; it acknowledges every byte but the last. -/
  | receive (acknowledge : Bool)
  | stop
  deriving DecidableEq, Repr

/-- The transaction that the engine has open on the bus, at the speed it was opened with (R46). -/
structure Transaction where
  speed : BusSpeed
  elements : List BusElement
  deriving DecidableEq, Repr

/-- The cartridge bus engine's state (R40 to R56). -/
structure Bus where
  jobs : List Job
  lastHandle : Nat
  results : List HostResult
  condition : BusCondition
  foreignTimer : Bool
  faultTimer : Bool
  failedRecoveries : Nat
  transaction : Option Transaction
  deriving DecidableEq, Repr

/-! ## The authentication engine -/

/-- A present auth context (R62). `firstJobDue` is set while the context's first job waits for an abandoned job of the station to
end (R44). -/
structure AuthContext where
  step : AuthStep
  recheck : Bool
  attempt : Nat
  challenge : Option Digest
  digestUsed : Option Nat
  lastEnding : Option AttemptEnding
  firstJobDue : Bool
  deriving DecidableEq, Repr

/-- A VERIFY request (R68). The key secret is the slot's, read at the start of the computation (R70). -/
structure VerifyRequest where
  station : Station
  keyIndex : Nat
  serial : Serial
  challenge : Digest
  digestUsed : Nat
  fillGeneration : Nat
  response : Digest
  deriving DecidableEq, Repr

/-- The request in computation, with the expected digest that the computation yields; `withdrawn` keeps its completion from
occurring (R69). -/
structure Computation where
  request : VerifyRequest
  expected : Digest
  withdrawn : Bool
  deriving DecidableEq, Repr

/-- The authentication engine's state: contexts and digest unit. -/
structure Auth where
  contexts : Vector (Option AuthContext) 8
  fifo : List VerifyRequest
  computing : Option Computation
  deriving DecidableEq, Repr

/-! ## The tally receiver and the metering unit -/

/-- A temperature as the receiver reads it (R85). -/
inductive TempReading where
  | degrees (t : Nat)
  | sensorFault
  deriving DecidableEq, Repr

/-- The aligner state (R87), with the candidate index in CANDIDATE and CONFIRM. In SYNC, `expected` is the index that the next
position to be judged must carry, and `judged` is the judgement of the position now arriving, absent until its first three
bytes are judged (R91). -/
inductive Aligner where
  | off
  | hunt
  | candidate (k : Fin 8)
  | confirm (k : Fin 8)
  | sync (expected : Fin 8) (judged : Option Bool)
  deriving DecidableEq, Repr

/-- The cycle buffer while it is collecting (R87, R93). `carried` is the check field of the position last completed. -/
structure CycleBuffer where
  positions : Nat
  sums : Vector Drops 8
  temps : Vector (Option TempReading) 8
  failed : Bool
  crc : BitVec 16
  carried : BitVec 16
  deriving DecidableEq, Repr

/-- A committed cycle (R99): its temperatures are present exactly in an ACTUAL cycle. -/
structure CommittedCycle where
  counts : Vector Drops 8
  temps : Option (Vector TempReading 8)
  deriving DecidableEq, Repr

/-- The five values of CONFIG_LINK but for the source (R101). -/
structure LinkConfig where
  nominalPeriod : Nat
  lossThreshold : Nat
  holdLimit : Nat
  counterWidth : Nat
  deriving DecidableEq, Repr

/-- The tally receiver's state (R87). `stream` is the bits received and still kept, from the search position, the candidate's marker
or the frame position's first bit on. `cycleTimer` is the period in microseconds that the running timer was last restarted with. -/
structure Tally where
  source : TallySource
  aligner : Aligner
  badRun : Nat
  checkRun : Nat
  buffer : Option CycleBuffer
  lastGood : Vector Drops 8
  cycleTimer : Option Nat
  silenceTimer : Bool
  estimateRun : Nat
  estimatedTotal : Nat
  markerErrors : Nat
  checkErrors : Nat
  config : LinkConfig
  stream : List Bool
  deriving DecidableEq, Repr

/-- A delivery of whole nanolitres on its way to the station controller (R110, R119). -/
structure Delivery where
  station : Station
  nl : Nat
  deriving DecidableEq, Repr

/-- The metering unit's own state: the pending store and the deliveries under way (R110). -/
structure MeterUnit where
  cycles : List CommittedCycle
  deliveries : List Delivery
  deriving DecidableEq, Repr

/-! ## Part-wide settings, the departed table and the retained store -/

/-- The eleven part-wide settings (R183). -/
structure PartConfig where
  t1 : Nat
  t2 : Nat
  t3 : Nat
  t4 : Nat
  lowPermille : Nat
  criticalPermille : Nat
  tolerance : Nat
  quantum : Nat
  policy : RefillPolicy
  pollSpacing : Nat
  busSpeed : BusSpeed
  deriving DecidableEq, Repr

/-- A departed entry (R145). -/
structure DepartedEntry where
  serial : Serial
  inkType : Nat
  capacity : Nat
  used : Nat
  lastWritten : Nat
  cls : AccountClass
  evidence : EvidenceSet
  sequence : Nat
  station : Station
  deriving DecidableEq, Repr

/-- The departed-cartridge table, oldest entry first, and the departure sequence counter (R145, R146). -/
structure DepartedTable where
  entries : List DepartedEntry
  nextSequence : Nat
  deriving DecidableEq, Repr

/-- A checkpoint (R141). -/
structure Checkpoint where
  serial : Serial
  inkType : Nat
  capacity : Nat
  used : Nat
  lastWritten : Nat
  cls : AccountClass
  evidence : EvidenceSet
  deriving DecidableEq, Repr

/-- A key slot: its state and its secret, absent in an EMPTY slot (R72). -/
structure KeySlotRec where
  state : KeyState
  secret : Option Nat
  deriving DecidableEq, Repr

/-- What the retained store holds (R186). -/
structure Retained where
  keySlots : Vector KeySlotRec 4
  partId : BitVec 32
  departed : DepartedTable
  checkpoints : Vector (Option Checkpoint) 8
  deriving DecidableEq, Repr

/-- What one retained-store write replaces, with the contents taken when it was requested (R186). -/
inductive StoreItem where
  /-- The state REVOKED of a key slot (R73). -/
  | keyRevoked (slot : KeySlot)
  | departed (table : DepartedTable)
  | checkpoint (station : Station) (contents : Option Checkpoint)
  deriving DecidableEq, Repr

/-- A requested write; `answers` marks the write on whose completion the waiting reply is formed (R177, R186). -/
structure StoreWrite where
  item : StoreItem
  answers : Bool
  deriving DecidableEq, Repr

/-! ## The event queue -/

/-- An event entry (R162); its severity is fixed by its kind. -/
structure EventEntry where
  kind : EventKind
  place : Place
  sequence : BitVec 16
  count : Nat
  value : Nat
  deriving DecidableEq, Repr

/-- The event queue (R164): `mask` has bit k set where the kind with code k is masked (R168); the arm flags are numbered as GET_STATUS
numbers the conditions. -/
structure EventQueue where
  entries : List EventEntry
  nextSequence : BitVec 16
  lost : Bool
  mask : BitVec 32
  armed : Vector Bool 30
  deriving DecidableEq, Repr

/-! ## The request engine -/

/-- A complete frame in the receive buffer (R174). -/
inductive RxFrame where
  | badFrame
  | wellFormed (kind : Byte) (tag : Byte) (body : List Byte)
  deriving DecidableEq, Repr

/-- The receiver (R173): hunting, or assembling with the bytes received after the sync byte, LEN first. -/
inductive Receiver where
  | hunting
  | assembling (bytes : List Byte)
  deriving DecidableEq, Repr

/-- A held slot of the receive buffer; `taken` is set once the request engine has taken its frame (R176, R177). -/
structure RxSlot where
  frame : RxFrame
  taken : Bool
  deriving DecidableEq, Repr

/-- A reply that has been formed (R178). -/
structure Reply where
  kind : Byte
  tag : Byte
  status : Status
  flags : Byte
  body : List Byte
  deriving DecidableEq, Repr

/-- A request that passed the judging of R177 and is with its owner. -/
structure Request where
  kind : RequestKind
  tag : Byte
  body : List Byte
  deriving DecidableEq, Repr

/-- Where the request engine stands between taking a frame and forming its reply (R177): ready to take the next frame; with a request
handed to its owner; waiting for the owner's retained-store write; or, after RESTART's reply, taking no further frame (R191). -/
inductive Engine where
  | ready
  | handed (request : Request)
  | awaiting (request : Request)
  | stopped
  deriving DecidableEq, Repr

/-- The request engine's state (R173): the held slots in arrival order, and the replies formed and not yet sent in full, oldest first. -/
structure HostLink where
  receiver : Receiver
  slots : List RxSlot
  overrun : Bool
  replies : List Reply
  engine : Engine
  deriving DecidableEq, Repr

end Sys2Proof.Machine
end

