-- ==== Sys2Proof/Machine/State.lean ====
section
/-! DEFINITION. The state of the part, and the state right after reset. -/

namespace Sys2Proof.Machine

/-- Why a command stops the machine with a fault. The manual gives every command an effect in every state, so no fault exists. -/
inductive Fault where
  deriving DecidableEq, Repr

/-- Why a command is refused. -/
inductive Refusal where
  /-- Raised by an arm of `exec` whose command has no meaning yet. Safe: the machine stops. No arm raises it now. -/
  | notModelled (mnemonic : String)
  deriving DecidableEq, Repr

/-- The state: everything the manual gives the part, the levels of the input pins that a start-up samples, the number of random draws
made (the model's own, log entry 2) and the commands that wait. -/
structure State where
  /-- Supply power is present (R187). -/
  powered : Bool
  /-- The level of RESET_N; `true` is high (R187). -/
  resetN : Bool
  /-- The presence inputs; `true` is asserted (R3). -/
  presence : Vector Bool 8
  /-- The ink-sense inputs; `true` is asserted (R156). -/
  inkInputs : Vector Bool 8
  /-- OPERATING or HALTED (R189). -/
  operating : OperatingState
  /-- The request engine (chapter 10). -/
  link : HostLink
  /-- The station records (chapter 1). -/
  stations : Vector StationRec 8
  /-- The cartridge bus engine (chapter 3). -/
  bus : Bus
  /-- The authentication engine (chapter 4). -/
  auth : Auth
  /-- The tally receiver (chapter 5). -/
  tally : Tally
  /-- The metering unit (chapter 6). -/
  meter : MeterUnit
  /-- The part-wide settings (R183). -/
  part : PartConfig
  /-- The departed-cartridge table as the refill monitor holds it (chapter 8). -/
  departed : DepartedTable
  /-- The event queue (chapter 9). -/
  events : EventQueue
  /-- The 30 conditions, numbered as GET_STATUS numbers them (R182): absent where the condition does not stand, and where it stands the
  value of the latest raise of it (R100, R163). -/
  standing : Vector (Option Nat) 30
  /-- The retained store's contents (R186). -/
  store : Retained
  /-- The requested retained-store writes, the first of them in progress (R186). -/
  writes : List StoreWrite
  /-- How many challenges have been drawn: the model's own counter for `Config.randomDraw`. -/
  draws : Nat
  /-- The commands that wait, first in, first out. -/
  pending : List Instr
  deriving DecidableEq, Repr

/-! ## Start-up values -/

/-- No drops. -/
def Drops.zero : Drops := ⟨0, 0, 0, 0⟩

/-- No flags. -/
def TagFlags.clear : TagFlags := ⟨false, false⟩

/-- No evidence. -/
def EvidenceSet.empty : EvidenceSet := ⟨false, false, false, false, false, false⟩

/-- The metering fields at start-up (R108). -/
def Metering.initial : Metering :=
  { fraction := 0, lifetime := Drops.zero, lastTemp := none, band := 0, bandChanged := false, tempFault := false,
    clamped := false, converted := 0, charged := 0, debt := 0, dryOverflow := 0 }

/-- The station configuration at start-up (R6). -/
def StationConfig.initial : StationConfig :=
  { expectedInk := 0, defaultCapacity := 100000000, swapReserve := 10000000, cycleCeiling := 201080880,
    inkSenseEnable := false }

/-- The volume table at start-up: invalid, volumes 0, factors 256 (R109). -/
def VolumeTable.initial : VolumeTable :=
  { valid := false, volumes := Drops.zero, factors := #v[256, 256, 256, 256, 256] }

/-- The ink-sense debouncer at start-up: stopped, with reading and baseline absent (R156). -/
def InkSense.initial : InkSense := { candidate := false, settle := false, reading := none, baseline := none }

/-- A station record at start-up, with the presence input deasserted (R3). -/
def StationRec.initial : StationRec :=
  { lifecycle := .vacant, seatTimer := false, removalTimer := false, ink := InkSense.initial, cartridge := none,
    meter := Metering.initial, config := StationConfig.initial, volumes := VolumeTable.initial }

/-- The bus engine at start-up, before its WAKE is queued (R61). -/
def Bus.initial : Bus :=
  { jobs := [], lastHandle := 0, results := [], condition := .free, foreignTimer := false, faultTimer := false,
    failedRecoveries := 0, transaction := none }

/-- The authentication engine at start-up (R62, R68). -/
def Auth.initial : Auth := { contexts := Vector.replicate 8 none, fifo := [], computing := none }

/-- The tally link settings at start-up (R101). -/
def LinkConfig.initial : LinkConfig := { nominalPeriod := 1000, lossThreshold := 3, holdLimit := 32, counterWidth := 8 }

/-- The tally receiver at start-up (R87). -/
def Tally.initial : Tally :=
  { source := .link, aligner := .hunt, badRun := 0, checkRun := 0, buffer := none,
    lastGood := Vector.replicate 8 Drops.zero, cycleTimer := some 1500, silenceTimer := true, estimateRun := 0,
    estimatedTotal := 0, markerErrors := 0, checkErrors := 0, config := LinkConfig.initial, stream := [] }

/-- The metering unit at start-up: its pending store empty (R110). -/
def MeterUnit.initial : MeterUnit := { cycles := [], deliveries := [] }

/-- The part-wide settings at start-up (R183). -/
def PartConfig.initial : PartConfig :=
  { t1 := 20, t2 := 30, t3 := 40, t4 := 50, lowPermille := 150, criticalPermille := 50, tolerance := 2000000,
    quantum := 500000, policy := .warn, pollSpacing := 5, busSpeed := .khz100 }

/-- The event queue at start-up: empty, every kind reported, every flag armed (R164). -/
def EventQueue.initial : EventQueue :=
  { entries := [], nextSequence := 0, lost := false, mask := 0, armed := Vector.replicate 30 true }

/-- The request engine at start-up (R173). -/
def HostLink.initial : HostLink :=
  { receiver := .hunting, slots := [], overrun := false, replies := [], engine := .ready }

/-- The departed table as the part is made (R145). -/
def DepartedTable.initial : DepartedTable := { entries := [], nextSequence := 0 }

/-- The retained store as the part is made: the departed table empty and every checkpoint clear (R141, R145). Which slots are LIVE,
their secrets and the part ID are set at manufacture and not given; the model's part has four LIVE slots, slot number n with the
secret n, and part ID 0 (log entry 5). -/
def Retained.asMade : Retained :=
  { keySlots := #v[⟨.live, some 0⟩, ⟨.live, some 1⟩, ⟨.live, some 2⟩, ⟨.live, some 3⟩], partId := 0,
    departed := DepartedTable.initial, checkpoints := Vector.replicate 8 none }

/-- The WAKE job that every start-up queues, with handle 1 (R61). -/
def Job.firstWake : Job :=
  { handle := 1, target := none, kind := .wake, cls := .wake, state := .queued, attempts := 3, polls := 0, payload := none,
    offset := 0, length := 0, lastFailure := .none, followOn := none, timer := none, phase := .transaction, written := none,
    disowned := false, cut := none }

/-- The part as it leaves the start-up of its first power-on (R187), with no cartridge seated and no command waiting: every block at
its start-up value, the store as made, the WAKE job queued. -/
def State.reset : State :=
  { powered := true, resetN := true, presence := Vector.replicate 8 false, inkInputs := Vector.replicate 8 false,
    operating := .operating, link := HostLink.initial, stations := Vector.replicate 8 StationRec.initial,
    bus := { Bus.initial with jobs := [Job.firstWake], lastHandle := 1 }, auth := Auth.initial, tally := Tally.initial,
    meter := MeterUnit.initial, part := PartConfig.initial, departed := DepartedTable.initial,
    events := EventQueue.initial, standing := Vector.replicate 30 none, store := Retained.asMade, writes := [],
    draws := 0, pending := [] }

end Sys2Proof.Machine
end

