-- ==== Sys2Proof/Machine/Bytes.lean ====
section
/-! DEFINITION. Bytes and bits: the byte order of each link, the check byte and the CRC-16 (R2, R193). -/

namespace Sys2Proof.Machine

/-- The byte at a position; 0 past the end of the list. -/
def byteAt (bytes : List Byte) (i : Nat) : Byte := bytes.getD i 0

/-- `n` bytes from a position on. -/
def byteSlice (bytes : List Byte) (at_ n : Nat) : List Byte := (bytes.drop at_).take n

/-- A number sent least significant byte first, as on the host link. -/
def leNumber : List Byte → Nat
  | [] => 0
  | b :: rest => b.toNat + 256 * leNumber rest

/-- A number sent most significant byte first, as on the tally link and the cartridge bus. -/
def beNumber (bytes : List Byte) : Nat := bytes.foldl (fun acc b => 256 * acc + b.toNat) 0

/-- The host link field of `n` bytes at a position. -/
def leField (bytes : List Byte) (at_ n : Nat) : Nat := leNumber (byteSlice bytes at_ n)

/-- The cartridge bus or tally link field of `n` bytes at a position. -/
def beField (bytes : List Byte) (at_ n : Nat) : Nat := beNumber (byteSlice bytes at_ n)

/-- A number as `n` bytes, least significant first. -/
def leBytes : (n : Nat) → Nat → List Byte
  | 0, _ => []
  | n + 1, x => BitVec.ofNat 8 x :: leBytes n (x / 256)

/-- A number as `n` bytes, most significant first. -/
def beBytes (n x : Nat) : List Byte := (leBytes n x).reverse

/-- The modulo-256 sum of a record's bytes (R2). -/
def byteSum (bytes : List Byte) : Byte := bytes.foldl (· + ·) 0

/-- A check byte: the two's complement of the modulo-256 sum of the other bytes (R2). -/
def checkByte (others : List Byte) : Byte := -(byteSum others)

/-- A record with its check byte sums to 0 modulo 256 (R2). -/
def recordGood (bytes : List Byte) : Bool := byteSum bytes == 0

/-- One shift of the CRC-16 register, polynomial x^16 + x^12 + x^5 + 1, not reflected (R2). -/
def crcShift (crc : BitVec 16) : BitVec 16 :=
  if crc.getLsbD 15 then (crc <<< 1) ^^^ 0x1021#16 else crc <<< 1

/-- One byte into the CRC-16 register, most significant bit first (R2). -/
def crcByte (crc : BitVec 16) (b : Byte) : BitVec 16 :=
  let start := crc ^^^ ((b.zeroExtend 16) <<< 8)
  crcShift (crcShift (crcShift (crcShift (crcShift (crcShift (crcShift (crcShift start)))))))

/-- The CRC-16 register's initial value (R2). -/
def crcInitial : BitVec 16 := 0xFFFF#16

/-- Bytes into a running CRC-16. -/
def crcExtend (crc : BitVec 16) (bytes : List Byte) : BitVec 16 := bytes.foldl crcByte crc

/-- The CRC-16 of a run of bytes (R2). -/
def crc16 (bytes : List Byte) : BitVec 16 := crcExtend crcInitial bytes

/-- A number from bits sent most significant first (R84). -/
def bitsNumber (bits : List Bool) : Nat := bits.foldl (fun acc b => 2 * acc + cond b 1 0) 0

/-- Eight bits from a position on as a byte, most significant first (R84). -/
def bitsByte (bits : List Bool) (at_ : Nat) : Byte := BitVec.ofNat 8 (bitsNumber ((bits.drop at_).take 8))

/-- The bytes `from_` to `from_ + n - 1` of a run of bits. -/
def bitsBytes (bits : List Bool) (from_ : Nat) : Nat → List Byte
  | 0 => []
  | n + 1 => bitsByte bits (8 * from_) :: bitsBytes bits (from_ + 1) n

/-- A flag as a bit at a position of a number. -/
def flagBit (b : Bool) (position : Nat) : Nat := cond b (2 ^ position) 0

/-- A list of flags as a number, the first at bit 0. -/
def flagsNumber : List Bool → Nat
  | [] => 0
  | b :: rest => cond b 1 0 + 2 * flagsNumber rest

/-- A value clamped to a range (R1, R6). -/
def clampTo (low high x : Nat) : Nat := if x < low then low else if x > high then high else x

/-- A sum that saturates at a maximum (R1). -/
def satAdd (maximum a b : Nat) : Nat := if a + b > maximum then maximum else a + b

end Sys2Proof.Machine
end

