-- ==== Sys2Proof/Machine/Codes.lean ====
section
/-! DEFINITION. The codes of the named quantities (R194), the event kinds' severities (R163), the statuses (R180) and the request kinds
(section 10.6). -/

namespace Sys2Proof.Machine

/-- Lifecycle state codes (R194). -/
def lifecycleCode : Lifecycle → Nat
  | .vacant => 0 | .seated => 1 | .identifying => 2 | .authenticating => 3 | .active => 4 | .quarantined => 5
  | .departing => 6 | .released => 7

/-- Trust class codes (R194). -/
def trustCode : TrustClass → Nat
  | .pending => 0 | .genuine => 1 | .refilled => 2 | .unverified => 3

/-- The trust class that an account's class is. -/
def AccountClass.trust : AccountClass → TrustClass
  | .genuine => .genuine | .refilled => .refilled

/-- The class an account takes from a cartridge record: REFILLED stays, and an authenticated cartridge is otherwise GENUINE. -/
def TrustClass.account : TrustClass → AccountClass
  | .refilled => .refilled
  | .pending | .genuine | .unverified => .genuine

/-- Quarantine cause codes; 0 is none (R194). -/
def causeCode : QuarantineCause → Nat
  | .noTag => 1 | .malformed => 2 | .wrongInk => 3 | .duplicate => 4 | .keyAbsent => 5 | .keyRevoked => 6
  | .noResponse => 7 | .badResponse => 8 | .refill => 9

/-- Evidence kind codes (R194). -/
def evidenceCode : EvidenceKind → Nat
  | .rollback => 1 | .emptyReturn => 2 | .marked => 3 | .overdraw => 4 | .senseRise => 5 | .conflict => 6

/-- An evidence set's byte: kind k is bit k - 1 (R194). Bits 6 and 7, which no kind names, are 0 by the model's choice (log entry 40). -/
def evidenceByte (e : EvidenceSet) : Nat :=
  flagsNumber [e.rollback, e.emptyReturn, e.marked, e.overdraw, e.senseRise, e.conflict]

/-- Level band codes (R194). -/
def bandCode : LevelBand → Nat
  | .ok => 0 | .low => 1 | .critical => 2 | .empty => 3

/-- Origin codes (R194). -/
def originCode : Origin → Nat
  | .new => 0 | .restored _ => 1

/-- Auth step codes (R194). -/
def stepCode : AuthStep → Nat
  | .read => 0 | .challenge => 1 | .response => 2 | .verify => 3

/-- Last attempt ending codes; 0 is none (R194). -/
def endingCode : AttemptEnding → Nat
  | .noAnswer => 1 | .mismatch => 2

/-- Job kind codes (R194). -/
def jobKindCode : JobKind → Nat
  | .wake => 0 | .readId => 1 | .challenge => 2 | .response => 3 | .writeUsage => 4 | .hostRead => 5 | .hostWrite => 6

/-- Job class numbers: the arbiter takes the lowest (R40). -/
def classNumber : JobClass → Nat
  | .wake => 0 | .depart => 1 | .auth => 2 | .writeBack => 3 | .host => 4

/-- Job state codes (R194). -/
def jobStateCode : JobState → Nat
  | .queued => 0 | .active => 1 | .polling => 2 | .retry => 3

/-- Job result codes (R194). -/
def resultCode : JobResult → Nat
  | .done => 0 | .nack => 1 | .timeout => 2 | .refused => 3 | .busFault => 4 | .removed => 5 | .aborted => 6

/-- Last failure codes (R194). -/
def failureCode : LastFailure → Nat
  | .none => 0 | .nack => 1 | .timeout => 2 | .busFault => 4 | .lost => 7

/-- Key slot state codes (R194). -/
def keyStateCode : KeyState → Nat
  | .empty => 0 | .live => 1 | .revoked => 2

/-- Operating state codes (R194). -/
def operatingCode : OperatingState → Nat
  | .operating => 0 | .halted => 1

/-- Tally source codes (R194). -/
def sourceCode : TallySource → Nat
  | .link => 0 | .host => 1

/-- Aligner state codes (R194). -/
def alignerCode : Aligner → Nat
  | .off => 0 | .hunt => 1 | .candidate _ => 2 | .confirm _ => 3 | .sync _ _ => 4

/-- Bus condition codes (R194). -/
def busConditionCode : BusCondition → Nat
  | .free => 0 | .own => 1 | .foreign => 2 | .recovery => 3 | .fault => 4

/-- Refill policy codes (R194). -/
def policyCode : RefillPolicy → Nat
  | .warn => 0 | .quarantine => 1

/-- Bus speed codes (R194). -/
def speedCode : BusSpeed → Nat
  | .khz100 => 0 | .khz400 => 1

/-- Severity codes (R194). -/
def severityCode : Severity → Nat
  | .alert => 1 | .warning => 2 | .notice => 3

/-- Status codes (R180). -/
def statusCode : Status → Nat
  | .ok => 0 | .queued => 1 | .badFrame => 2 | .unknownKind => 3 | .badLength => 4 | .badStation => 5 | .wrongState => 6
  | .queueFull => 7 | .refused => 8 | .notFound => 9 | .halted => 10

/-- A station field: 15 names no station (R162). -/
def placeCode : Place → Nat
  | some i => i.val
  | none => 15

/-- Event kind codes (R163). -/
def eventCode : EventKind → Nat
  | .quarantined => 1 | .refillSuspected => 2 | .cartridgeEmpty => 3 | .reservoirDry => 4 | .linkLost => 5 | .meterGap => 6
  | .busFault => 7 | .levelBand => 8 | .writebackFailed => 9 | .meterClamped => 10 | .usedSaturated => 11
  | .departedEvicted => 12 | .tempFault => 13 | .uncalibrated => 14 | .busBlocked => 15 | .linkSilent => 16
  | .linkErrors => 17 | .seated => 18 | .vacated => 19 | .activated => 20 | .recheckPassed => 21 | .linkSync => 22
  | .tempBand => 23 | .jobDone => 24 | .busRecovered => 25

/-- The severity of each event kind (R163). -/
def EventKind.severity : EventKind → Severity
  | .quarantined | .refillSuspected | .cartridgeEmpty | .reservoirDry | .linkLost | .meterGap | .busFault => .alert
  | .levelBand | .writebackFailed | .meterClamped | .usedSaturated | .departedEvicted | .tempFault | .uncalibrated
  | .busBlocked | .linkSilent | .linkErrors => .warning
  | .seated | .vacated | .activated | .recheckPassed | .linkSync | .tempBand | .jobDone | .busRecovered => .notice

/-- The rank of a severity: ALERT above WARNING above NOTICE (R162). -/
def severityRank : Severity → Nat
  | .alert => 2 | .warning => 1 | .notice => 0

/-- The event kind a condition is reported as (R163). -/
def Condition.kind : Condition → EventKind
  | .reservoirDry _ => .reservoirDry
  | .tempFault _ => .tempFault
  | .uncalibrated _ => .uncalibrated
  | .linkLost => .linkLost
  | .meterGap => .meterGap
  | .busFault => .busFault
  | .busBlocked => .busBlocked
  | .linkSilent => .linkSilent
  | .linkErrors => .linkErrors

/-- Where a condition stands (R163, R167). -/
def Condition.place : Condition → Place
  | .reservoirDry i | .tempFault i | .uncalibrated i => some i
  | .linkLost | .meterGap | .busFault | .busBlocked | .linkSilent | .linkErrors => none

/-- The number of a condition: its bit in GET_STATUS (section 12.4), and the number of its arm flag (R167). -/
def Condition.number : Condition → Fin 30
  | .reservoirDry i => ⟨i.val, by omega⟩
  | .tempFault i => ⟨8 + i.val, by omega⟩
  | .uncalibrated i => ⟨16 + i.val, by omega⟩
  | .linkLost => 24
  | .meterGap => 25
  | .busFault => 26
  | .busBlocked => 27
  | .linkSilent => 28
  | .linkErrors => 29

/-- KIND codes of the requests (section 10.6). -/
def requestCode : RequestKind → Nat
  | .identify => 1 | .getStatus => 2 | .configPart => 3 | .getStation => 4 | .configStation => 5 | .release => 6
  | .tagRead => 7 | .tagWrite => 8 | .getJob => 9 | .abortJob => 10 | .authenticate => 11 | .admitCartridge => 12
  | .revokeKey => 13 | .configLink => 14 | .readLink => 15 | .tally => 16 | .setVolumes => 17 | .listDeparted => 18
  | .forget => 19 | .getEvents => 20 | .setMask => 21 | .shutdown => 22 | .restart => 23

/-- The request kinds in the order of their codes. -/
def requestKinds : List RequestKind :=
  [.identify, .getStatus, .configPart, .getStation, .configStation, .release, .tagRead, .tagWrite, .getJob, .abortJob,
   .authenticate, .admitCartridge, .revokeKey, .configLink, .readLink, .tally, .setVolumes, .listDeparted, .forget,
   .getEvents, .setMask, .shutdown, .restart]

/-- The request kind that a KIND byte names, if it names one (R177 step 2). -/
def requestOfCode (code : Nat) : Option RequestKind := requestKinds.find? (fun k => requestCode k == code)

/-- The body lengths a request kind admits (section 10.6). -/
def bodyLengthOk : RequestKind → Nat → Bool
  | .identify, n | .getStatus, n | .shutdown, n | .restart, n => n == 0
  | .configPart, n | .setVolumes, n => n == 19
  | .configStation, n => n == 16
  | .tagRead, n => n == 3
  | .tagWrite, n => 3 ≤ n && n ≤ 34
  | .configLink, n => n == 6
  | .tally, n => n == 72
  | .forget, n => n == 9
  | .setMask, n => n == 4
  | .getStation, n | .release, n | .getJob, n | .abortJob, n | .authenticate, n | .admitCartridge, n | .revokeKey, n
  | .readLink, n | .listDeparted, n | .getEvents, n => n == 1

/-- The kinds whose body begins with a station number (section 10.6). -/
def namesStation : RequestKind → Bool
  | .getStation | .configStation | .release | .tagRead | .tagWrite | .authenticate | .admitCartridge | .setVolumes => true
  | .identify | .getStatus | .configPart | .getJob | .abortJob | .revokeKey | .configLink | .readLink | .tally
  | .listDeparted | .forget | .getEvents | .setMask | .shutdown | .restart => false

/-- The kinds served while the part is HALTED (section 10.6, R190). -/
def servedInHalted : RequestKind → Bool
  | .identify | .getStatus | .getEvents | .restart => true
  | .configPart | .getStation | .configStation | .release | .tagRead | .tagWrite | .getJob | .abortJob | .authenticate
  | .admitCartridge | .revokeKey | .configLink | .readLink | .tally | .setVolumes | .listDeparted | .forget | .setMask
  | .shutdown => false

end Sys2Proof.Machine
end

