-- ==== Sys2Proof/Machine/Updates.lean ====
section
/-! DEFINITION. The updates of the state, one per field, through which every operation changes it; and the reading and writing of one
station's record and of one auth context. -/

namespace Sys2Proof.Machine

/-- Replace supply power. -/
def State.withPowered (s : State) (x : Bool) : State := { s with powered := x }

/-- Replace the level of RESET_N. -/
def State.withResetN (s : State) (x : Bool) : State := { s with resetN := x }

/-- Replace the presence inputs. -/
def State.withPresence (s : State) (x : Vector Bool 8) : State := { s with presence := x }

/-- Replace the ink-sense inputs. -/
def State.withInkInputs (s : State) (x : Vector Bool 8) : State := { s with inkInputs := x }

/-- Replace the operating state. -/
def State.withOperating (s : State) (x : OperatingState) : State := { s with operating := x }

/-- Replace the request engine. -/
def State.withLink (s : State) (x : HostLink) : State := { s with link := x }

/-- Replace the station records. -/
def State.withStations (s : State) (x : Vector StationRec 8) : State := { s with stations := x }

/-- Replace the bus engine. -/
def State.withBus (s : State) (x : Bus) : State := { s with bus := x }

/-- Replace the authentication engine. -/
def State.withAuth (s : State) (x : Auth) : State := { s with auth := x }

/-- Replace the tally receiver. -/
def State.withTally (s : State) (x : Tally) : State := { s with tally := x }

/-- Replace the metering unit. -/
def State.withMeter (s : State) (x : MeterUnit) : State := { s with meter := x }

/-- Replace the part-wide settings. -/
def State.withPart (s : State) (x : PartConfig) : State := { s with part := x }

/-- Replace the departed table. -/
def State.withDeparted (s : State) (x : DepartedTable) : State := { s with departed := x }

/-- Replace the event queue. -/
def State.withEvents (s : State) (x : EventQueue) : State := { s with events := x }

/-- Replace the standing conditions. -/
def State.withStanding (s : State) (x : Vector (Option Nat) 30) : State := { s with standing := x }

/-- Replace the retained store. -/
def State.withStore (s : State) (x : Retained) : State := { s with store := x }

/-- Replace the requested writes. -/
def State.withWrites (s : State) (x : List StoreWrite) : State := { s with writes := x }

/-- Replace the draw counter. -/
def State.withDraws (s : State) (x : Nat) : State := { s with draws := x }

/-- Replace the waiting commands. -/
def State.withPending (s : State) (x : List Instr) : State := { s with pending := x }

/-- The record of a station (R3). -/
def State.station (s : State) (i : Station) : StationRec := s.stations[i]

/-- Replace the record of a station. -/
def State.setStation (s : State) (i : Station) (r : StationRec) : State := s.withStations (s.stations.set i r)

/-- Change the record of a station. -/
def State.modStation (s : State) (i : Station) (f : StationRec → StationRec) : State := s.setStation i (f (s.station i))

/-- Change a station's cartridge record, where it has one. -/
def State.modCartridge (s : State) (i : Station) (f : CartridgeRecord → CartridgeRecord) : State :=
  s.modStation i (fun r => { r with cartridge := r.cartridge.map f })

/-- A station's auth context, where it is present (R62). -/
def State.context (s : State) (i : Station) : Option AuthContext := s.auth.contexts[i]

/-- Replace a station's auth context. -/
def State.setContext (s : State) (i : Station) (c : Option AuthContext) : State :=
  s.withAuth { s.auth with contexts := s.auth.contexts.set i c }

/-- The part has power and RESET_N is high, so its inputs are read and its blocks run (R187). -/
def State.running (s : State) : Bool := s.powered && s.resetN

/-- The part runs and is OPERATING (R189). -/
def State.inService (s : State) : Bool := s.running && s.operating == .operating

/-- Apply `f` where the part runs; otherwise nothing happens (R187). -/
def State.whenRunning (s : State) (f : State → State) : State := if s.running then f s else s

/-- Apply `f` where the part runs and is OPERATING; otherwise nothing happens (R187, R190). -/
def State.whenInService (s : State) (f : State → State) : State := if s.inService then f s else s

/-- Apply `f` for every station in station order. -/
def State.forStations (s : State) (f : State → Station → State) : State := stationList.foldl f s

end Sys2Proof.Machine
end

