-- ==== Sys2Proof/Machine/Events.lean ====
section
/-! DEFINITION. The event queue: raising an event, raising and ending a condition, and fetching (chapter 9). -/

namespace Sys2Proof.Machine

/-- Whether raises of a kind are masked (R168). -/
def EventQueue.isMasked (q : EventQueue) (k : EventKind) : Bool := q.mask.getLsbD (eventCode k)

/-- Whether a raise meets a disarmed flag; only conditions have one (R165 step 2). -/
def EventQueue.isDisarmed (q : EventQueue) : Option Condition → Bool
  | some c => !q.armed[c.number]
  | none => false

/-- Disarm a condition's flag after an accepted raise (R165 step 5). -/
def EventQueue.disarm (q : EventQueue) : Option Condition → EventQueue
  | some c => { q with armed := q.armed.set c.number false }
  | none => q

/-- Whether an entry is of this kind and station. -/
def EventEntry.isPair (k : EventKind) (p : Place) (e : EventEntry) : Bool := e.kind == k && e.place == p

/-- An accepted raise merged into an entry: the latest value, one more repeat up to 255 (R165 step 3). -/
def EventEntry.repeated (v : Nat) (e : EventEntry) : EventEntry := { e with value := v, count := satAdd 255 e.count 1 }

/-- Merge a raise into the entry of its pair (R165 step 3). -/
def EventQueue.merge (q : EventQueue) (k : EventKind) (p : Place) (v : Nat) : EventQueue :=
  { q with entries := q.entries.map (fun e => if e.isPair k p then e.repeated v else e) }

/-- Append a new entry at the tail with the next first-seen sequence (R164, R165 step 4). -/
def EventQueue.append (q : EventQueue) (k : EventKind) (p : Place) (v : Nat) : EventQueue :=
  { q with entries := q.entries ++ [⟨k, p, q.nextSequence, 1, v⟩], nextSequence := q.nextSequence + 1 }

/-- The rank of an entry's severity. -/
def EventEntry.rank (e : EventEntry) : Nat := severityRank e.kind.severity

/-- The lowest rank present among entries (R166). -/
def lowestRank (entries : List EventEntry) : Nat := entries.foldl (fun m e => min m e.rank) 2

/-- Evict the oldest entry of the lowest severity present (R166). -/
def EventQueue.evict (q : EventQueue) : EventQueue :=
  { q with entries := q.entries.eraseP (fun e => e.rank == lowestRank q.entries) }

/-- A raise reaches the queue: mask, arming, merge, new entry or R166, and disarming, in the order of R165. `arm` is the condition
whose flag the raise meets, where its kind is a condition. A raise at a disarmed flag is given up also where an entry of the pair is
still queued, as R165 step 2 and section 9.10 have it against R163 of BUS_FAULT and R100 of LINK_ERRORS (log entry 32). -/
def EventQueue.raise (q : EventQueue) (arm : Option Condition) (k : EventKind) (p : Place) (v : Nat) : EventQueue :=
  if q.isMasked k then q
  else if q.isDisarmed arm then q
  else if q.entries.any (EventEntry.isPair k p) then (q.merge k p v).disarm arm
  else if q.entries.length < Config.eventSlots then (q.append k p v).disarm arm
  else if lowestRank q.entries ≤ severityRank k.severity then
    ({ q.evict with lost := true }.append k p v).disarm arm
  else { q with lost := true }

/-- Raise an event that is no condition (R162). -/
def State.raise (s : State) (k : EventKind) (p : Place) (v : Nat) : State := s.withEvents (s.events.raise none k p v)

/-- Whether a condition stands (R182). -/
def State.stands (s : State) (c : Condition) : Bool := (s.standing[c.number]).isSome

/-- Raise a condition: it stands from now on (R182) with the value of this raise, the latest (R100), and the raise reaches the queue
(R165). -/
def State.raiseCondition (s : State) (c : Condition) (v : Nat) : State :=
  (s.withStanding (s.standing.set c.number (some v))).withEvents (s.events.raise (some c) c.kind c.place v)

/-- End a condition that stands: it stands no more and its arm flag is armed; the queue's entries stay (R167). The owner's state and
the queue's flag change in one step, so that a raise and an end are never taken by the queue in the other order than the owner's
(log entry 35). -/
def State.endCondition (s : State) (c : Condition) : State :=
  if s.stands c then
    (s.withStanding (s.standing.set c.number none)).withEvents
      { s.events with armed := s.events.armed.set c.number true }
  else s

/-- The first `n` entries of a rank, oldest first (R169). -/
def firstOfRank (r n : Nat) (entries : List EventEntry) : List EventEntry :=
  (entries.filter (fun e => e.rank == r)).take n

/-- The entries without the first `n` of a rank (R169). -/
def dropOfRank (r : Nat) : Nat → List EventEntry → List EventEntry
  | 0, entries => entries
  | _ + 1, [] => []
  | n + 1, e :: rest => if e.rank == r then dropOfRank r n rest else e :: dropOfRank r (n + 1) rest

/-- How many entries a queue holds of a rank. -/
def countOfRank (r : Nat) (entries : List EventEntry) : Nat := (entries.filter (fun e => e.rank == r)).length

/-- GET_EVENTS' count, clamped to 1 to 8 (R169). -/
def fetchCount (n : Nat) : Nat := clampTo 1 8 n

/-- The entries that a fetch of `n` selects, in the order selected: ALERT, WARNING, NOTICE, each oldest first (R169). -/
def selectEvents (n : Nat) (entries : List EventEntry) : List EventEntry :=
  (firstOfRank 2 n entries ++ firstOfRank 1 n entries ++ firstOfRank 0 n entries).take n

/-- The entries that stay after a fetch of `n`, in their order (R169). -/
def remainingEvents (n : Nat) (entries : List EventEntry) : List EventEntry :=
  let alerts := min n (countOfRank 2 entries)
  let warnings := min (n - alerts) (countOfRank 1 entries)
  dropOfRank 0 (n - alerts - warnings) (dropOfRank 1 warnings (dropOfRank 2 alerts entries))

end Sys2Proof.Machine
end

