-- ==== Sys2Proof/Machine/Store.lean ====
section
/-! DEFINITION. The retained store's writes (R186), the checkpoints (R141 to R143) and the departed-cartridge table (R145 to R149). -/

namespace Sys2Proof.Machine

/-- A completed write replaces its item whole (R186). -/
def Retained.apply (m : Retained) : StoreItem → Retained
  | .keyRevoked k => { m with keySlots := m.keySlots.set k { m.keySlots[k] with state := .revoked } }
  | .departed t => { m with departed := t }
  | .checkpoint i c => { m with checkpoints := m.checkpoints.set i c }

/-- All of a run of requested writes, in order (R186). -/
def Retained.applyAll (m : Retained) (ws : List StoreWrite) : Retained := ws.foldl (fun m w => m.apply w.item) m

/-- Request a write; it waits behind the writes requested before it (R186). -/
def State.requestWrite (s : State) (item : StoreItem) (answers : Bool) : State := s.withWrites (s.writes ++ [⟨item, answers⟩])

/-- A loss of power or a fall of RESET_N: the write in progress leaves its item new where it landed, and otherwise as it was; the writes
that wait are gone (R186). -/
def State.interruptStore (s : State) (landed : Bool) : State :=
  match s.writes with
  | [] => s
  | w :: _ => ((if landed then s.withStore (s.store.apply w.item) else s)).withWrites []

/-! ## Evidence sets -/

/-- Whether a set holds a kind. -/
def EvidenceSet.has (e : EvidenceSet) : EvidenceKind → Bool
  | .rollback => e.rollback | .emptyReturn => e.emptyReturn | .marked => e.marked | .overdraw => e.overdraw
  | .senseRise => e.senseRise | .conflict => e.conflict

/-- A kind added to a set. -/
def EvidenceSet.insert (e : EvidenceSet) : EvidenceKind → EvidenceSet
  | .rollback => { e with rollback := true }
  | .emptyReturn => { e with emptyReturn := true }
  | .marked => { e with marked := true }
  | .overdraw => { e with overdraw := true }
  | .senseRise => { e with senseRise := true }
  | .conflict => { e with conflict := true }

/-- The union of two sets. -/
def EvidenceSet.union (a b : EvidenceSet) : EvidenceSet :=
  ⟨a.rollback || b.rollback, a.emptyReturn || b.emptyReturn, a.marked || b.marked, a.overdraw || b.overdraw,
   a.senseRise || b.senseRise, a.conflict || b.conflict⟩

/-! ## Checkpoints -/

/-- The checkpoint of a cartridge record as it stands: present where the record is authenticated and has its figures (R141). -/
def CartridgeRecord.checkpoint (c : CartridgeRecord) : Option Checkpoint :=
  match c.authenticated, c.identity, c.capacity, c.account with
  | true, some id, some cap, some a => some ⟨id.serial, id.inkType, cap, a.used, a.lastWritten, c.trust.account, c.evidence⟩
  | _, _, _, _ => none

/-- The checkpoint of a station's cartridge, where the cartridge is authenticated. -/
def State.checkpointOf (s : State) (i : Station) : Option Checkpoint := (s.station i).cartridge.bind (·.checkpoint)

/-- Write the station's checkpoint from the record as it stands (R142); while the part is HALTED none is written (R186). -/
def State.writeCheckpoint (s : State) (i : Station) : State :=
  match s.operating, s.checkpointOf i with
  | .operating, some c => s.requestWrite (.checkpoint i (some c)) false
  | _, _ => s

/-- Clear the station's checkpoint slot (R143). -/
def State.clearCheckpoint (s : State) (i : Station) : State := s.requestWrite (.checkpoint i none) false

/-! ## The departed-cartridge table -/

/-- The entry of a serial, where the table has one (R150). -/
def DepartedTable.lookup (t : DepartedTable) (serial : Serial) : Option DepartedEntry :=
  t.entries.find? (fun e => e.serial == serial)

/-- The table without a serial; the other entries keep their order (R148, R160). -/
def DepartedTable.remove (t : DepartedTable) (serial : Serial) : DepartedTable :=
  { t with entries := t.entries.filter (fun e => e.serial != serial) }

/-- REFILLED if either class is (R147 step 1). -/
def AccountClass.join : AccountClass → AccountClass → AccountClass
  | .genuine, .genuine => .genuine
  | .refilled, _ | _, .refilled => .refilled

/-- A new entry with an older entry of the same serial merged into it (R147 step 1). -/
def DepartedEntry.mergeOld (e old : DepartedEntry) : DepartedEntry :=
  { e with used := max e.used old.used, lastWritten := max e.lastWritten old.lastWritten,
           evidence := e.evidence.union old.evidence, cls := e.cls.join old.cls }

/-- Entries renumbered from a sequence on (R146). -/
def renumberFrom : Nat → List DepartedEntry → List DepartedEntry
  | _, [] => []
  | n, e :: rest => { e with sequence := n } :: renumberFrom (n + 1) rest

/-- Append an entry with the next departure sequence; at the counter's end every entry is renumbered (R146, R147 step 3). -/
def DepartedTable.append (t : DepartedTable) (e : DepartedEntry) : DepartedTable :=
  let entries := t.entries ++ [{ e with sequence := t.nextSequence }]
  if t.nextSequence = Config.maxNl then { entries := renumberFrom 0 entries, nextSequence := entries.length }
  else { entries, nextSequence := t.nextSequence + 1 }

/-- The entry that an insertion appends: with an older entry of its serial merged in (R147 step 1). -/
def DepartedTable.merged (t : DepartedTable) (e : DepartedEntry) : DepartedEntry :=
  match t.lookup e.serial with
  | some old => e.mergeOld old
  | none => e

/-- The entry that an insertion of this serial evicts: the head, where the table is full without the serial's own entry
(R147 step 2). -/
def DepartedTable.evicted (t : DepartedTable) (serial : Serial) : Option DepartedEntry :=
  let rest := (t.remove serial).entries
  if rest.length < Config.departedSlots then none else rest.head?

/-- The table after an insertion: same serial merged, a full table's head evicted, the entry appended (R147). -/
def DepartedTable.insert (t : DepartedTable) (e : DepartedEntry) : DepartedTable :=
  let rest := (t.remove e.serial).entries
  let kept := if rest.length < Config.departedSlots then rest else rest.tail
  DepartedTable.append { t with entries := kept } (t.merged e)

/-- Insert an entry: DEPARTED_EVICTED for an evicted head, then the changed table, written to the store as one write (R147, R149). -/
def State.insertDeparted (s : State) (e : DepartedEntry) : State :=
  let s1 := match s.departed.evicted e.serial with
    | some old => s.raise .departedEvicted (some old.station) (old.serial.toNat % 4294967296)
    | none => s
  let table := s.departed.insert e
  (s1.withDeparted table).requestWrite (.departed table) false

/-- The entry that a checkpoint's figures make at a station (R147, R188). -/
def Checkpoint.entry (c : Checkpoint) (i : Station) : DepartedEntry :=
  ⟨c.serial, c.inkType, c.capacity, c.used, c.lastWritten, c.cls, c.evidence, 0, i⟩

/-- Enter a station's authenticated cartridge as departed with its figures as they stand, and clear its checkpoint, the table first
(R20, R22, R18, R149). A cartridge that is not authenticated leaves no entry. -/
def State.enterDeparted (s : State) (i : Station) : State :=
  match s.checkpointOf i with
  | some c => (s.insertDeparted (c.entry i)).clearCheckpoint i
  | none => s

/-- Consume the entry of a serial at a first pass; where there is none, nothing changes (R148). -/
def State.consumeDeparted (s : State) (serial : Serial) : State :=
  match s.departed.lookup serial with
  | some _ =>
    let table := s.departed.remove serial
    (s.withDeparted table).requestWrite (.departed table) false
  | none => s

end Sys2Proof.Machine
end

