-- ==== Sys2Proof/Machine/BusQueue.lean ====
section
/-! DEFINITION. The bus engine's job queue: handles, entry, merging of write-backs, withdrawal and abandonment (R40 to R44), and the
digest unit's withdrawal (R69). -/

namespace Sys2Proof.Machine

/-- A job as it stands at enqueue, before it has its handle (R40). -/
def Job.fresh (target : Option Station) (kind : JobKind) (cls : JobClass) : Job :=
  { handle := 0, target, kind, cls, state := .queued, attempts := 3, polls := 0, payload := none, offset := 0, length := 0,
    lastFailure := .none, followOn := none, timer := none, phase := .transaction, written := none, disowned := false,
    cut := none }

/-- The handles after `last`, in the order they are tried: counting 1 to 255 and wrapping to 1 (R41). -/
def handlesAfter (last : Nat) : List Nat := (List.range 255).map (fun i => (last + i) % 255 + 1)

/-- The handles held by a job still in the queue or by a result entry (R41). -/
def Bus.heldHandles (b : Bus) : List Nat := b.jobs.map (·.handle) ++ b.results.map (·.handle)

/-- The next handle to be given: the next number not held (R41). With at most 28 held there always is one. -/
def Bus.nextHandle (b : Bus) : Nat := ((handlesAfter b.lastHandle).find? (fun h => !b.heldHandles.contains h)).getD 1

/-- Enter a job at the tail of the queue under the next handle (R41). -/
def Bus.enqueue (b : Bus) (j : Job) : Bus :=
  { b with jobs := b.jobs ++ [{ j with handle := b.nextHandle }], lastHandle := b.nextHandle }

/-- Queue a job. -/
def State.enqueue (s : State) (j : Job) : State := s.withBus (s.bus.enqueue j)

/-- The ACTIVE job, of which there is at most one (R42). -/
def Bus.activeJob (b : Bus) : Option Job := b.jobs.find? (fun j => j.state == .active)

/-- Replace the jobs that have this handle. -/
def Bus.updateJob (b : Bus) (handle : Nat) (f : Job → Job) : Bus :=
  { b with jobs := b.jobs.map (fun j => if j.handle = handle then f j else j) }

/-- Take the job with this handle out of the queue; the others keep their places (R41). -/
def Bus.removeJob (b : Bus) (handle : Nat) : Bus := { b with jobs := b.jobs.filter (fun j => j.handle != handle) }

/-- A host job (R56). -/
def Job.isHost (j : Job) : Bool := j.kind == .hostRead || j.kind == .hostWrite

/-- How many host jobs exist: those in the queue and those whose results wait (R42). -/
def Bus.hostJobs (b : Bus) : Nat := (b.jobs.filter Job.isHost).length + b.results.length

/-- A job of a class for a station. -/
def Job.isAuthOf (i : Station) (j : Job) : Bool := j.cls == .auth && j.target == some i

/-- The station's write-back job. -/
def Job.isWriteBackOf (i : Station) (j : Job) : Bool := j.kind == .writeUsage && j.target == some i

/-- A job that is still in the queue and not in flight: QUEUED or in RETRY (R40). -/
def Job.waits (j : Job) : Bool := j.state == .queued || j.state == .retry

/-- Ask for a WAKE: dropped while a WAKE job is present (R42). -/
def State.requestWake (s : State) : State :=
  if s.bus.jobs.any (fun j => j.kind == .wake) then s else s.enqueue (Job.fresh none .wake .wake)

/-- DEPART if either class is DEPART (R43). -/
def JobClass.strongest (mark : Option JobClass) (c : JobClass) : JobClass := if mark = some .depart then .depart else c

/-- What a write-back request does to the station's present WRITE_USAGE job: a job that has not started takes the class DEPART if that is
asked for; a job that has started takes the follow-on mark (R43). -/
def Job.mergeRequest (c : JobClass) (j : Job) : Job :=
  if j.state = .queued then { j with cls := if c = .depart then .depart else j.cls }
  else { j with followOn := some (JobClass.strongest j.followOn c) }

/-- A write-back request of a class for a station (R43). -/
def State.requestWriteBack (s : State) (i : Station) (c : JobClass) : State :=
  if s.bus.jobs.any (Job.isWriteBackOf i) then
    s.withBus { s.bus with jobs := s.bus.jobs.map (fun j => if j.isWriteBackOf i then j.mergeRequest c else j) }
  else s.enqueue (Job.fresh (some i) .writeUsage c)

/-- Withdraw a station's write-back: removed where it waits; where it is ACTIVE it runs to its end without follow-on, its result to be
discarded (R44). -/
def State.withdrawWriteBack (s : State) (i : Station) : State :=
  s.withBus { s.bus with
    jobs := (s.bus.jobs.filter (fun j => !(j.isWriteBackOf i && j.waits))).map
      (fun j => if j.isWriteBackOf i then { j with disowned := true, followOn := none } else j) }

/-- Withdraw a station's VERIFY request: out of the FIFO, or without a completion where it is in computation (R69). -/
def Auth.withdrawVerify (a : Auth) (i : Station) : Auth :=
  { a with
    fifo := a.fifo.filter (fun r => r.station != i)
    computing := a.computing.map (fun c => if c.request.station = i then { c with withdrawn := true } else c) }

/-- Abandon a station's auth context, where it has one: its waiting job leaves the queue, a job in flight runs to its end with its
result to be discarded, its VERIFY request is withdrawn, and the context becomes absent (R8, R44, R69). -/
def State.abandonContext (s : State) (i : Station) : State :=
  match s.context i with
  | none => s
  | some _ =>
    ((s.withBus { s.bus with
        jobs := (s.bus.jobs.filter (fun j => !(j.isAuthOf i && j.waits))).map
          (fun j => if j.isAuthOf i then { j with disowned := true } else j) }).withAuth
      (s.auth.withdrawVerify i)).setContext i none

/-- Create a station's context at step READ and queue its READ_ID; while an earlier AUTH job of the station still runs to its end, the
job is queued when that one has ended (R44, R63, R78). -/
def State.startContext (s : State) (i : Station) (recheck : Bool) : State :=
  let waits := s.bus.jobs.any (Job.isAuthOf i)
  let s1 := s.setContext i (some ⟨.read, recheck, 1, none, none, none, waits⟩)
  if waits then s1 else s1.enqueue (Job.fresh (some i) .readId .auth)

/-- After an AUTH job of a station has left the queue: queue the first job of a context that waited for it (R44). -/
def State.queueDueJob (s : State) (i : Station) : State :=
  match s.context i with
  | some c =>
    if c.firstJobDue && !s.bus.jobs.any (Job.isAuthOf i) then
      (s.setContext i (some { c with firstJobDue := false })).enqueue (Job.fresh (some i) .readId .auth)
    else s
  | none => s

end Sys2Proof.Machine
end

