-- ==== Sys2Proof/Machine/Flags.lean ====
section
/-! DEFINITION. Quantities computed from the state and stored nowhere: the FLAGS byte (R179), the ATTN_N line (R171), the standing
conditions' bits (R182), and a record's remaining, overdraw and level band (R126, R127). -/

namespace Sys2Proof.Machine

/-- The FLAGS byte of a reply: attention pending, overrun, halted, and in GET_EVENTS replies events lost (R179). -/
def flagsByte (attention overrun halted lost : Bool) : Byte :=
  BitVec.ofNat 8 (flagsNumber [attention, overrun, halted, lost])

/-- The queue holds at least one entry (R170). -/
def State.attentionPending (s : State) : Bool := !s.events.entries.isEmpty

/-- The level of ATTN_N, `true` high: low exactly while the running part's event queue holds an entry (R171, R187). -/
def State.attnN (s : State) : Bool := !(s.running && s.attentionPending)

/-- The level HL_TX idles at while nothing is being sent: high (R173, R187). The line is idle where no reply is formed and unsent. -/
def State.txIdle (s : State) : Bool := !s.running || s.link.replies.isEmpty

/-- The standing conditions as GET_STATUS reports them (R182, section 12.4). -/
def State.standingBits (s : State) : Nat := flagsNumber (s.standing.toList.map (·.isSome))

/-- What is left of a cartridge's ink (R126). -/
def remaining (capacity used : Nat) : Nat := capacity - used

/-- What a cartridge has given beyond its capacity (R126). -/
def overdraw (capacity used : Nat) : Nat := used - capacity

/-- The permille of capacity that remains (R127). -/
def permille (capacity used : Nat) : Nat := remaining capacity used * 1000 / capacity

/-- The level band of figures under the two permille limits (R127). -/
def levelBand (low critical capacity used : Nat) : LevelBand :=
  if remaining capacity used = 0 then .empty
  else if permille capacity used ≤ critical then .critical
  else if permille capacity used ≤ low then .low
  else .ok

/-- The flags of a cartridge record that a usage write carries (R38). -/
def CartridgeRecord.flags (c : CartridgeRecord) : TagFlags := ⟨c.emptyLatch, c.refillMark⟩

/-- The usage record's flags byte: bit 0 the empty latch, bit 1 the refill mark, the others zero (R38). -/
def TagFlags.byte (f : TagFlags) : Byte := BitVec.ofNat 8 (flagsNumber [f.emptyLatch, f.refillMark])

/-- A flag set in `f` that is not among the flags of `base` (R136). -/
def TagFlags.beyond (f base : TagFlags) : Bool := (f.emptyLatch && !base.emptyLatch) || (f.refillMark && !base.refillMark)

/-- The debounced presence level that GET_STATION reports: deasserted in VACANT and SEATED (R25). -/
def StationRec.debouncedPresence (r : StationRec) : Bool := !(r.lifecycle == .vacant || r.lifecycle == .seated)

/-- The states in which a station's serial counts for the duplicate check (R13 check 4, R17). -/
def Lifecycle.holdsSerial : Lifecycle → Bool
  | .identifying | .authenticating | .active | .quarantined | .departing => true
  | .vacant | .seated | .released => false

/-- The states in which the removal timer is started by a deassertion (R21). -/
def Lifecycle.held : Lifecycle → Bool
  | .identifying | .authenticating | .active | .quarantined | .departing | .released => true
  | .vacant | .seated => false

/-- The states in which whole nanolitres go to the cartridge (R7, R119). -/
def Lifecycle.charges : Lifecycle → Bool
  | .active | .departing => true
  | .vacant | .seated | .identifying | .authenticating | .quarantined | .released => false

/-- A class that write-backs are made for (R136). -/
def TrustClass.trusted : TrustClass → Bool
  | .genuine | .refilled => true
  | .pending | .unverified => false

/-- The state of the key slot that a key index names; an index above 3 names none (R72). -/
def State.keyState (s : State) (keyIndex : Nat) : Option KeyState :=
  if h : keyIndex < 4 then some (s.store.keySlots[keyIndex]).state else none

/-- The secret that a computation may take from the slot a key index names: a LIVE slot's (R68, R72). -/
def State.liveSecret (s : State) (keyIndex : Nat) : Option Nat :=
  if h : keyIndex < 4 then
    match s.store.keySlots[keyIndex] with
    | ⟨.live, secret⟩ => secret
    | ⟨.empty, _⟩ | ⟨.revoked, _⟩ => none
  else none

/-- The value that a BUS_FAULT raise carries (R163): the count of failed recoveries; a count beyond 32 bits has no stated value. -/
def failureValue (n : Nat) : Nat := if n ≤ Config.maxNl then n else (Config.oversizeFailureCount n).toNat

end Sys2Proof.Machine
end

