-- ==== Sys2Proof/Machine/Operands.lean ====
section
/-! DEFINITION. What the part reads from outside: request bodies with their clamping (R193, R195 and the owning rules), tag records
(section 12.8) and tally frames (R84, R85, section 12.7). -/

namespace Sys2Proof.Machine

/-! ## Request bodies -/

/-- The station that a body's first byte names. TAKE_REQUEST has tested it to be at most 7 (R177 step 4). -/
def bodyStation (body : List Byte) : Station := Fin.ofNat 8 (byteAt body 0).toNat

/-- CONFIG_PART's eleven values as stored, the thresholds and permilles clamped in order (R183). -/
def readPartConfig (body : List Byte) : PartConfig :=
  let t1 := clampTo 0 147 (byteAt body 0).toNat
  let t2 := clampTo (t1 + 1) 148 (byteAt body 1).toNat
  let t3 := clampTo (t2 + 1) 149 (byteAt body 2).toNat
  let t4 := clampTo (t3 + 1) 150 (byteAt body 3).toNat
  let low := clampTo 2 500 (leField body 4 2)
  { t1, t2, t3, t4, lowPermille := low
    criticalPermille := clampTo 1 (low - 1) (leField body 6 2)
    tolerance := clampTo 0 10000000 (leField body 8 4)
    quantum := clampTo 10000 10000000 (leField body 12 4)
    policy := if (byteAt body 16).toNat = 1 then .quarantine else .warn
    pollSpacing := clampTo 1 255 (byteAt body 17).toNat
    busSpeed := if (byteAt body 18).toNat = 1 then .khz400 else .khz100 }

/-- CONFIG_STATION's five values as stored (R6, R26, R195). -/
def readStationConfig (body : List Byte) : StationConfig :=
  { expectedInk := leField body 1 2
    defaultCapacity := clampTo 1000000 2000000000 (leField body 3 4)
    swapReserve := clampTo 0 50000000 (leField body 7 4)
    cycleCeiling := clampTo 1 201080880 (leField body 11 4)
    inkSenseEnable := byteAt body 15 != 0 }

/-- CONFIG_LINK's source: any code other than HOST is taken as LINK (R101). -/
def readSource (body : List Byte) : TallySource := if (byteAt body 0).toNat = 1 then .host else .link

/-- CONFIG_LINK's other four values as stored (R101). -/
def readLinkConfig (body : List Byte) : LinkConfig :=
  { nominalPeriod := clampTo 100 65535 (leField body 1 2)
    lossThreshold := clampTo 3 4 (byteAt body 3).toNat
    holdLimit := (byteAt body 4).toNat
    counterWidth := if (byteAt body 5).toNat < 9 then 8 else 10 }

/-- A temperature byte as the receiver reads it (R85). -/
def readTemp (b : Byte) : TempReading :=
  if b.toNat ≤ 200 then .degrees b.toNat else if b.toNat ≤ 254 then .degrees 200 else .sensorFault

/-- The most drops of a class in a cycle (R85, R104). -/
def maxCount : Nat := 8184

/-- One station's counts in a TALLY body, each above 8184 clamped to 8184 (R104, section 12.3). -/
def tallyCounts (body : List Byte) (i : Station) : Drops :=
  let field (k : Nat) := clampTo 0 maxCount (leField body (9 * i.val + 2 * k) 2)
  ⟨field 0, field 1, field 2, field 3⟩

/-- A vector over the eight stations. -/
def perStation {α : Type} (f : Station → α) : Vector α 8 := #v[f 0, f 1, f 2, f 3, f 4, f 5, f 6, f 7]

/-- The committed cycle of a TALLY body: counts clamped, temperature bytes read as byte 43 is (R104). -/
def readTally (body : List Byte) : CommittedCycle :=
  { counts := perStation (tallyCounts body), temps := some (perStation (fun i => readTemp (byteAt body (9 * i.val + 8)))) }

/-- SET_VOLUMES' nine values as stored, marked valid (R123). -/
def readVolumes (body : List Byte) : VolumeTable :=
  let volume (k : Nat) := clampTo 0 4095 (leField body (1 + 2 * k) 2)
  let factor (k : Nat) := clampTo 128 384 (leField body (9 + 2 * k) 2)
  { valid := true, volumes := ⟨volume 0, volume 1, volume 2, volume 3⟩
    factors := #v[factor 0, factor 1, factor 2, factor 3, factor 4] }

/-- SET_MASK's mask as stored: bits 0 and 26 to 31 are stored as reported (R195). -/
def readMask (body : List Byte) : BitVec 32 := BitVec.ofNat 32 (leField body 0 4) &&& 0x03FFFFFE#32

/-- FORGET's mode: any code other than 1 is read as ONE (R195); `true` is ALL. -/
def readForgetAll (body : List Byte) : Bool := (byteAt body 0).toNat == 1

/-- FORGET's serial (section 12.3). -/
def readForgetSerial (body : List Byte) : Serial := BitVec.ofNat 64 (leField body 1 8)

/-- READ_LINK's clear option, bit 0 (R195). -/
def readClearOption (body : List Byte) : Bool := (byteAt body 0).getLsbD 0

/-! ## Tag records (section 12.8), most significant byte first -/

/-- The identity record of a READ_ID's 36 bytes. -/
def identityBytes (data : List Byte) : List Byte := byteSlice data 0 24

/-- The usage record of a READ_ID's 36 bytes. -/
def usageBytes (data : List Byte) : List Byte := byteSlice data 24 12

/-- The capacity that an identity record gives. -/
def readCapacity (data : List Byte) : Nat := beField data 10 4

/-- The two tag flags of a usage record (R37). -/
def readTagFlags (data : List Byte) : TagFlags := ⟨(byteAt data 28).getLsbD 0, (byteAt data 28).getLsbD 1⟩

/-- The serial that an identity record gives. -/
def readSerial (data : List Byte) : Serial := BitVec.ofNat 64 (beField data 0 8)

/-- The used figure that a usage record gives. -/
def readTagUsed (data : List Byte) : Nat := beField data 24 4

/-- The identity fields and tag figures of a READ_ID's 36 bytes (R37). -/
def readIdentity (data : List Byte) : Identity :=
  { serial := readSerial data, inkType := beField data 8 2, keyIndex := (byteAt data 14).toNat,
    fillGeneration := (byteAt data 15).toNat, tagUsed := readTagUsed data, tagFlags := readTagFlags data }

/-- Both records sum to 0 modulo 256 (R13 check 1, R37). -/
def recordsGood (data : List Byte) : Bool := recordGood (identityBytes data) && recordGood (usageBytes data)

/-- The 12 bytes of a usage write (R38). -/
def usageWriteBytes (used : Nat) (flags : TagFlags) (partId : BitVec 32) : List Byte :=
  let body := beBytes 4 used ++ [flags.byte] ++ beBytes 4 partId.toNat ++ [0, 0]
  body ++ [checkByte body]

/-! ## Tally frames (section 12.7), most significant bit first -/

/-- The index that an index byte carries, where it is valid: bits 4 to 6 the ones' complement of bits 0 to 2, bits 3 and 7 zero (R84). -/
def readIndexByte (b : Byte) : Option (Fin 8) :=
  let index := b.toNat % 8
  if b.toNat = index + 16 * (7 - index) then some (Fin.ofNat 8 index) else none

/-- The marker and index tests on the 24 bits at a position: the index carried, where marker and index byte are right (R84). -/
def readHeader (bits : List Bool) (at_ : Nat) : Option (Fin 8) :=
  if bitsByte bits at_ = 0xC7 ∧ bitsByte bits (at_ + 8) = 0x39 then readIndexByte (bitsByte bits (at_ + 16)) else none

/-- The count of class `k` in the slot of station `i` of a frame: 10 bits (R85). -/
def slotCount (bits : List Bool) (i : Station) (k : Nat) : Nat :=
  bitsNumber ((bits.drop (24 + 40 * i.val + 10 * k)).take 10)

/-- The four counts of a station in a frame (R85). -/
def slotCounts (bits : List Bool) (i : Station) : Drops :=
  ⟨slotCount bits i 0, slotCount bits i 1, slotCount bits i 2, slotCount bits i 3⟩

/-- Counts added class by class (R93). -/
def Drops.add (a b : Drops) : Drops := ⟨a.small + b.small, a.medium + b.medium, a.large + b.large, a.service + b.service⟩

/-- The search over kept bits: positions whose 24 bits are there and fail the tests are passed over (R88). -/
def huntSkip : List Bool → List Bool
  | [] => []
  | b :: rest => if 24 ≤ (b :: rest).length ∧ readHeader (b :: rest) 0 = none then huntSkip rest else b :: rest

end Sys2Proof.Machine
end

