-- ==== Sys2Proof/Machine/Layouts.lean ====
section
/-! DEFINITION. What the part writes: reply frames and reply bodies (R178, R194, sections 12.1 and 12.4 to 12.6) and the transactions it
opens on the cartridge bus (R27, R36, R46 to R49). -/

namespace Sys2Proof.Machine

/-- A one-byte field. -/
def oneByte (n : Nat) : List Byte := [BitVec.ofNat 8 n]

/-- Flags as a one-byte field, the first at bit 0 (section 12.2). R194 has 0 written in the bits that a layout marks reserved; that the bits
above the flags are 0 also where the layout says nothing of them (GET_STATION bytes 29 and 90, READ_LINK byte 15) is the model's choice (log
entry 40). -/
def flagsField (fs : List Bool) : List Byte := oneByte (flagsNumber fs)

/-! ## Reply frames -/

/-- The reply frame's bytes as they are sent (R178, section 12.1). -/
def Reply.bytes (r : Reply) : List Byte :=
  let counted := [r.kind, r.tag, BitVec.ofNat 8 (statusCode r.status), r.flags] ++ r.body
  let checked := BitVec.ofNat 8 counted.length :: counted
  [0xA5] ++ checked ++ leBytes 2 (crc16 checked).toNat

/-- A request frame's bytes as the controller sends them (section 10.2). -/
def requestFrameBytes (kind tag : Byte) (body : List Byte) : List Byte :=
  let checked := BitVec.ofNat 8 (body.length + 2) :: kind :: tag :: body
  [0xA5] ++ checked ++ leBytes 2 (crc16 checked).toNat

/-! ## Reply bodies -/

/-- IDENTIFY (R181). -/
def identifyBody (m : Retained) : List Byte :=
  leBytes 2 2608 ++ oneByte 1 ++ leBytes 4 m.partId.toNat
    ++ m.keySlots.toList.map (fun k => BitVec.ofNat 8 (keyStateCode k.state))

/-- GET_STATUS (R182). -/
def statusBody (s : State) : List Byte :=
  oneByte (operatingCode s.operating) ++ oneByte (sourceCode s.tally.source) ++ oneByte (alignerCode s.tally.aligner)
    ++ oneByte (busConditionCode s.bus.condition) ++ leBytes 4 s.standingBits ++ oneByte s.bus.jobs.length
    ++ oneByte s.bus.hostJobs ++ oneByte s.events.entries.length

/-- CONFIG_PART's stored values (section 12.3). -/
def partConfigBody (p : PartConfig) : List Byte :=
  oneByte p.t1 ++ oneByte p.t2 ++ oneByte p.t3 ++ oneByte p.t4 ++ leBytes 2 p.lowPermille ++ leBytes 2 p.criticalPermille
    ++ leBytes 4 p.tolerance ++ leBytes 4 p.quantum ++ oneByte (policyCode p.policy) ++ oneByte p.pollSpacing
    ++ oneByte (speedCode p.busSpeed)

/-- CONFIG_STATION's bytes 1 to 15 (section 12.3). -/
def stationConfigBytes (c : StationConfig) : List Byte :=
  leBytes 2 c.expectedInk ++ leBytes 4 c.defaultCapacity ++ leBytes 4 c.swapReserve ++ leBytes 4 c.cycleCeiling
    ++ flagsField [c.inkSenseEnable]

/-- SET_VOLUMES' bytes 1 to 18 (section 12.3). -/
def volumeBytes (v : VolumeTable) : List Byte :=
  leBytes 2 v.volumes.small ++ leBytes 2 v.volumes.medium ++ leBytes 2 v.volumes.large ++ leBytes 2 v.volumes.service
    ++ v.factors.toList.flatMap (leBytes 2)

/-- The auth context's part of GET_STATION: byte 3, 0 without a context (R194, section 12.5). Bits 6 and 7, which the layout neither names nor
marks reserved, are 0 by the model's choice (log entry 40). -/
def contextByte : Option AuthContext → Nat
  | none => 0
  | some c => stepCode c.step + 4 * c.attempt + 16 * (c.lastEnding.map endingCode).getD 0

/-- The marker for an absent value (R194). -/
def absentMarker : Nat := 255

/-- The cartridge record's part of GET_STATION: bytes 4 to 45 (section 12.5). An absent field is 0; an absent carried class is 0xFF. -/
def cartridgeBytes (c : Option CartridgeRecord) : List Byte :=
  let identity := c.bind (·.identity)
  let account := c.bind (·.account)
  let get (f : CartridgeRecord → Nat) : Nat := (c.map f).getD 0
  let flag (f : CartridgeRecord → Bool) : Bool := (c.map f).getD false
  leBytes 2 (flagsNumber [c.isSome, identity.isSome, flag (·.capacity.isSome), account.isSome, flag (·.origin.isSome),
      flag (·.cause.isSome), flag (·.band.isSome)])
    ++ leBytes 8 ((identity.map (·.serial.toNat)).getD 0) ++ leBytes 2 ((identity.map (·.inkType)).getD 0)
    ++ leBytes 4 ((c.bind (·.capacity)).getD 0) ++ oneByte ((identity.map (·.keyIndex)).getD 0)
    ++ oneByte ((identity.map (·.fillGeneration)).getD 0) ++ oneByte (get (fun r => trustCode r.trust))
    ++ oneByte (((c.bind (·.cause)).map causeCode).getD 0) ++ oneByte (((c.bind (·.origin)).map originCode).getD 0)
    ++ oneByte (match c.bind (·.origin) with
        | some (.restored cls) => trustCode cls.trust
        | some .new | none => absentMarker)
    ++ oneByte (get (fun r => evidenceByte r.evidence))
    ++ flagsField [flag (·.authenticated), flag (·.emptyLatch), flag (·.refillMark), flag (·.bandChanged),
        flag (·.overdrawRaised), flag (·.emptyRaised), flag (·.usedSaturated)]
    ++ oneByte (((c.bind (·.band)).map bandCode).getD 0)
    ++ flagsField [(account.map (·.baseFlags.emptyLatch)).getD false, (account.map (·.baseFlags.refillMark)).getD false]
    ++ leBytes 4 ((identity.map (·.tagUsed)).getD 0) ++ leBytes 4 ((account.map (·.used)).getD 0)
    ++ leBytes 4 ((account.map (·.lastWritten)).getD 0) ++ leBytes 4 ((account.map (·.baseUsed)).getD 0)

/-- The metering fields' part of GET_STATION: bytes 46 to 91 (section 12.5). -/
def meteringBytes (m : Metering) (uncalibrated : Bool) : List Byte :=
  leBytes 2 m.fraction ++ leBytes 4 m.debt ++ leBytes 4 m.dryOverflow ++ leBytes 4 m.charged ++ leBytes 4 m.converted
    ++ leBytes 6 m.lifetime.small ++ leBytes 6 m.lifetime.medium ++ leBytes 6 m.lifetime.large
    ++ leBytes 6 m.lifetime.service ++ oneByte (m.lastTemp.getD absentMarker) ++ oneByte m.band.val
    ++ flagsField [m.bandChanged, m.tempFault, m.clamped, uncalibrated] ++ oneByte 0

/-- GET_STATION's 126 bytes (section 12.5). -/
def stationBody (s : State) (i : Station) : List Byte :=
  let r := s.station i
  let context := s.context i
  oneByte i.val ++ oneByte (lifecycleCode r.lifecycle)
    ++ flagsField [r.debouncedPresence, r.removalTimer, r.ink.reading.isSome, r.ink.reading.getD false,
        r.ink.baseline.isSome, r.ink.baseline.getD false, context.isSome, (context.map (·.recheck)).getD false]
    ++ oneByte (contextByte context) ++ cartridgeBytes r.cartridge ++ meteringBytes r.meter (!r.volumes.valid)
    ++ stationConfigBytes r.config ++ oneByte 0 ++ volumeBytes r.volumes

/-- GET_JOB answered OK (R59, section 12.4). -/
def hostResultBody (r : HostResult) : List Byte :=
  oneByte r.handle ++ oneByte r.station.val ++ oneByte (jobKindCode r.kind) ++ oneByte (resultCode r.result)
    ++ oneByte (failureCode r.lastFailure) ++ oneByte r.data.length ++ r.data

/-- GET_JOB answered QUEUED (R59, section 12.4). -/
def queuedJobBody (j : Job) : List Byte :=
  oneByte j.handle ++ oneByte (jobStateCode j.state) ++ oneByte (failureCode j.lastFailure)

/-- CONFIG_LINK's stored values (section 12.3). -/
def linkConfigBody (source : TallySource) (c : LinkConfig) : List Byte :=
  oneByte (sourceCode source) ++ leBytes 2 c.nominalPeriod ++ oneByte c.lossThreshold ++ oneByte c.holdLimit
    ++ oneByte c.counterWidth

/-- READ_LINK (R105, section 12.4). -/
def readLinkBody (s : State) : List Byte :=
  let t := s.tally
  oneByte (sourceCode t.source) ++ oneByte (alignerCode t.aligner)
    ++ oneByte (match t.aligner with
        | .sync expected _ => expected.val
        | .off | .hunt | .candidate _ | .confirm _ => absentMarker)
    ++ oneByte (match t.aligner, t.buffer with
        | .sync _ _, some b => b.positions
        | _, _ => absentMarker)
    ++ leBytes 2 t.markerErrors ++ leBytes 2 t.checkErrors ++ oneByte t.badRun ++ oneByte t.checkRun
    ++ oneByte t.estimateRun ++ leBytes 4 t.estimatedTotal
    ++ flagsField [s.stands .linkLost, s.stands .linkSilent, s.stands .meterGap, s.stands .linkErrors]
    ++ leBytes 2 t.config.nominalPeriod ++ oneByte t.config.lossThreshold ++ oneByte t.config.holdLimit
    ++ oneByte t.config.counterWidth

/-- A departed entry's 29 bytes (section 12.6). -/
def departedEntryBytes (e : DepartedEntry) : List Byte :=
  leBytes 8 e.serial.toNat ++ leBytes 2 e.inkType ++ leBytes 4 e.capacity ++ leBytes 4 e.used ++ leBytes 4 e.lastWritten
    ++ oneByte (trustCode e.cls.trust) ++ oneByte (evidenceByte e.evidence) ++ leBytes 4 e.sequence ++ oneByte e.station.val

/-- LIST_DEPARTED from a start index (R159, section 12.4). -/
def departedBody (t : DepartedTable) (start : Nat) : List Byte :=
  let shown := (t.entries.drop start).take 4
  oneByte t.entries.length ++ leBytes 4 t.nextSequence ++ oneByte start ++ oneByte shown.length
    ++ shown.flatMap departedEntryBytes

/-- An event entry's 10 bytes (section 12.6). -/
def eventEntryBytes (e : EventEntry) : List Byte :=
  oneByte (eventCode e.kind) ++ oneByte (placeCode e.place) ++ oneByte (severityCode e.kind.severity)
    ++ leBytes 2 e.sequence.toNat ++ oneByte e.count ++ leBytes 4 e.value

/-- GET_EVENTS, with the entries selected and the number still queued (R169, section 12.4). -/
def eventsBody (remaining : Nat) (selected : List EventEntry) : List Byte :=
  oneByte remaining ++ oneByte selected.length ++ selected.flatMap eventEntryBytes

/-! ## Transactions on the cartridge bus -/

/-- The bus address of a station's tag (R27). -/
def tagAddress (i : Station) : Nat := 0x30 + i.val

/-- The address byte with the write direction. -/
def writeAddress (address : Nat) : BusElement := .send (BitVec.ofNat 8 (2 * address))

/-- The address byte with the read direction. -/
def readAddress (address : Nat) : BusElement := .send (BitVec.ofNat 8 (2 * address + 1))

/-- Reading `n` bytes: every byte but the last is acknowledged (R46). -/
def readElements : Nat → List BusElement
  | 0 => []
  | 1 => [.receive false]
  | n + 2 => .receive true :: readElements (n + 1)

/-- A pointer setting, a repeated start and a read of `n` bytes (R46). -/
def readTransaction (address offset n : Nat) : List BusElement :=
  [.start, writeAddress address, .send (BitVec.ofNat 8 offset), .start, readAddress address] ++ readElements n ++ [.stop]

/-- A write of bytes at an offset (R36). -/
def writeTransaction (address offset : Nat) (bytes : List Byte) : List BusElement :=
  [.start, writeAddress address, .send (BitVec.ofNat 8 offset)] ++ bytes.map .send ++ [.stop]

/-- The WAKE broadcast (R35, R47). -/
def wakeTransaction : List BusElement := [.start, writeAddress 0, .send 0x5B, .stop]

/-- The transaction that opens a job's attempt or poll (R36, R47 to R49). -/
def Job.opening (j : Job) : List BusElement :=
  let address := (j.target.map tagAddress).getD 0
  let payload := j.payload.getD []
  match j.kind with
  | .wake => wakeTransaction
  | .readId => readTransaction address 0 36
  | .challenge => writeTransaction address 40 payload
  | .response => readTransaction address 48 8
  | .writeUsage => writeTransaction address 24 payload
  | .hostRead => readTransaction address j.offset j.length
  | .hostWrite => writeTransaction address j.offset payload

/-- The transaction of a write job's status phase (R49). -/
def Job.statusRead (j : Job) : List BusElement := readTransaction ((j.target.map tagAddress).getD 0) 36 1

end Sys2Proof.Machine
end

