-- ==== Sys2Proof/Machine/Ops.lean ====
section
/-! DEFINITION. The station controller's and the refill monitor's shared operations: charging and the checks after a charge, level bands,
write-back needs, evidence, the entries to QUARANTINED, ACTIVE and IDENTIFYING, and reconciliation (chapters 1, 6, 7 and 8). -/

namespace Sys2Proof.Machine

/-! ## Write-back needs (R136) -/

/-- A write-back need exists for a record at a quantum: a quantum of charges above the base, or a flag not among the base flags. -/
def CartridgeRecord.needsWriteBack (c : CartridgeRecord) (quantum : Nat) : Bool :=
  match c.account with
  | some a => c.trust.trusted && (a.baseUsed + quantum ≤ a.used || c.flags.beyond a.baseFlags)
  | none => false

/-- Test a station for a write-back need, which only an ACTIVE station has, and ask for a write-back where it has one (R136). -/
def State.testWriteBack (s : State) (i : Station) : State :=
  match (s.station i).lifecycle, (s.station i).cartridge with
  | .active, some c => if c.needsWriteBack s.part.quantum then s.requestWriteBack i .writeBack else s
  | _, _ => s

/-! ## Entry to QUARANTINED (R8) -/

/-- The cause recorded and the state QUARANTINED. -/
def StationRec.quarantined (cause : QuarantineCause) (r : StationRec) : StationRec :=
  { r with lifecycle := .quarantined, cartridge := r.cartridge.map (fun c => { c with cause := some cause }) }

/-- Enter QUARANTINED with a cause: the cause is recorded, any auth context is abandoned, and QUARANTINED is raised (R8). -/
def State.enterQuarantined (s : State) (i : Station) (cause : QuarantineCause) : State :=
  ((s.modStation i (StationRec.quarantined cause)).abandonContext i).raise .quarantined (some i) (causeCode cause)

/-! ## Evidence (R152 to R154) -/

/-- Evidence in the record of an authenticated cartridge: the set grows, GENUINE becomes REFILLED, the refill mark is set (R152 steps
1 to 3). -/
def CartridgeRecord.withEvidence (k : EvidenceKind) (c : CartridgeRecord) : CartridgeRecord :=
  { c with evidence := c.evidence.insert k, trust := if c.trust = .genuine then .refilled else c.trust, refillMark := true }

/-- Evidence in the record of a PENDING cartridge: the set grows and the refill mark is set; an UNVERIFIED cartridge's set grows (R153). -/
def CartridgeRecord.withProvisionalEvidence (k : EvidenceKind) (c : CartridgeRecord) : CartridgeRecord :=
  { c with evidence := c.evidence.insert k, refillMark := if c.trust = .unverified then c.refillMark else true }

/-- The refill policy at step 6 of R152: under QUARANTINE an ACTIVE station is quarantined with REFILL; while the part is HALTED the policy
is not applied (R154). -/
def State.applyRefillPolicy (s : State) (i : Station) : State :=
  match s.operating, s.part.policy, (s.station i).lifecycle with
  | .operating, .quarantine, .active => s.enterQuarantined i .refill
  | _, _, _ => s

/-- Record evidence of a kind for a station's cartridge (R152 for an authenticated cartridge, R153 for any other). -/
def State.recordEvidence (s : State) (i : Station) (k : EvidenceKind) : State :=
  match (s.station i).cartridge with
  | none => s
  | some c =>
    if c.authenticated then
      let s1 := s.modCartridge i (CartridgeRecord.withEvidence k)
      let s2 := if c.refillMark then s1 else s1.testWriteBack i
      let s3 := if c.withEvidence k = c then s2 else s2.writeCheckpoint i
      (s3.raise .refillSuspected (some i) (evidenceCode k)).applyRefillPolicy i
    else
      (s.modCartridge i (CartridgeRecord.withProvisionalEvidence k)).raise .refillSuspected (some i) (evidenceCode k)

/-! ## Level bands (R128, R129) -/

/-- A computed band taken into the record: a change sets the flag and raises LEVEL_BAND; a first band of OK is recorded silently
(R128). -/
def State.noteBand (s : State) (i : Station) (held : Option LevelBand) (b : LevelBand) : State :=
  if held = some b then s
  else if held = none ∧ b = .ok then s.modCartridge i (fun c => { c with band := some b })
  else (s.modCartridge i (fun c => { c with band := some b, bandChanged := true })).raise .levelBand (some i) (bandCode b)

/-- The first arrival at EMPTY in a holding: the empty latch and the empty-raised flag are set and CARTRIDGE_EMPTY is raised (R129); a
latch newly set is a test for a write-back need (R136). -/
def State.noteEmpty (s : State) (i : Station) (c : CartridgeRecord) (used : Nat) : State :=
  if c.emptyRaised then s
  else
    let s1 := (s.modCartridge i (fun c => { c with emptyLatch := true, emptyRaised := true })).raise .cartridgeEmpty (some i) used
    if c.emptyLatch then s1 else s1.testWriteBack i

/-- Compute the level band of a station's record, where capacity and used are both present (R128, R129). -/
def State.computeBand (s : State) (i : Station) : State :=
  match (s.station i).cartridge with
  | none => s
  | some c =>
    match c.capacity, c.account with
    | some capacity, some a =>
      let b := levelBand s.part.lowPermille s.part.criticalPermille capacity a.used
      let s1 := s.noteBand i c.band b
      if b = .empty then s1.noteEmpty i c a.used else s1
    | _, _ => s

/-! ## Charges (R120, R121, R132, R134, R155) -/

/-- The nanolitres of a charge that the used figure cannot take (R120). -/
def CartridgeRecord.excess (w : Nat) (c : CartridgeRecord) : Nat :=
  match c.account with
  | some a => a.used + w - Config.maxNl
  | none => 0

/-- Whether a charge meets the saturation of the used figure: a part of it is left over, or the figure already stood at its top (R120). -/
def CartridgeRecord.saturates (w : Nat) (c : CartridgeRecord) : Bool :=
  match c.account with
  | some a => decide (Config.maxNl ≤ a.used) || decide (Config.maxNl < a.used + w)
  | none => false

/-- A charge added to the used figure, which saturates (R120). -/
def CartridgeRecord.charge (w : Nat) (c : CartridgeRecord) : CartridgeRecord :=
  { c with account := c.account.map (fun a => { a with used := satAdd Config.maxNl a.used w }),
           usedSaturated := c.usedSaturated || c.saturates w }

/-- A charge in the station record: used grows with saturation, the charged total by the whole (R120). -/
def StationRec.charge (w : Nat) (r : StationRec) : StationRec :=
  { r with cartridge := r.cartridge.map (CartridgeRecord.charge w),
           meter := { r.meter with charged := satAdd Config.maxNl r.meter.charged w } }

/-- Charge the figures of a station's cartridge, raising USED_SATURATED at the first saturation of the holding (R120). -/
def State.chargeFigures (s : State) (i : Station) (w : Nat) : State :=
  let s1 := s.modStation i (StationRec.charge w)
  match (s.station i).cartridge with
  | some c => if c.usedSaturated || !c.saturates w then s1 else s1.raise .usedSaturated (some i) (c.excess w)
  | none => s1

/-- The OVERDRAW test: once per holding, overdraw beyond the swap reserve and the tolerance (R155). -/
def State.testOverdraw (s : State) (i : Station) : State :=
  match (s.station i).cartridge with
  | none => s
  | some c =>
    match c.capacity, c.account with
    | some capacity, some a =>
      if !c.overdrawRaised && (s.station i).config.swapReserve + s.part.tolerance < overdraw capacity a.used then
        (s.modCartridge i (fun c => { c with overdrawRaised := true })).recordEvidence i .overdraw
      else s
    | _, _ => s

/-- The three checks after a charge to a cartridge: level band, overdraw evidence, write-back need (R134). -/
def State.chargeChecks (s : State) (i : Station) : State := ((s.computeBand i).testOverdraw i).testWriteBack i

/-- W routed to the cartridge, and the checks that follow (R120, R134). -/
def State.chargeCartridge (s : State) (i : Station) (w : Nat) : State := (s.chargeFigures i w).chargeChecks i

/-- The part of W that the debt can take under the swap reserve (R121). -/
def StationRec.debtPart (r : StationRec) (w : Nat) : Nat := min w (r.config.swapReserve - r.meter.debt)

/-- W routed to the debt, the excess to dry overflow (R121). -/
def StationRec.chargeDebt (w : Nat) (r : StationRec) : StationRec :=
  { r with meter := { r.meter with debt := r.meter.debt + r.debtPart w,
                                   dryOverflow := satAdd Config.maxNl r.meter.dryOverflow (w - r.debtPart w) } }

/-- W routed to the debt; an addition to dry overflow raises RESERVOIR_DRY (R121). -/
def State.chargeDebt (s : State) (i : Station) (w : Nat) : State :=
  let s1 := s.modStation i (StationRec.chargeDebt w)
  if (s.station i).debtPart w < w then s1.raiseCondition (.reservoirDry i) (s1.station i).meter.dryOverflow else s1

/-- A delivery routed by the state in which it is taken (R119). -/
def State.routeDelivery (s : State) (i : Station) (w : Nat) : State :=
  if (s.station i).lifecycle.charges then s.chargeCartridge i w else s.chargeDebt i w

/-! ## Entry to ACTIVE (R9, R132) -/

/-- The debt taken to 0 by the activation transfer (R132 step 3). -/
def StationRec.clearDebt (r : StationRec) : StationRec := { r with meter := { r.meter with debt := 0 } }

/-- The activation transfer: the whole debt charged, RESERVOIR_DRY ended where the reserve is above 0, and the checks after a charge
(R132). -/
def State.activationTransfer (s : State) (i : Station) : State :=
  let s1 := (s.chargeFigures i (s.station i).meter.debt).modStation i StationRec.clearDebt
  let s2 := if 0 < (s.station i).config.swapReserve then s1.endCondition (.reservoirDry i) else s1
  s2.chargeChecks i

/-- The state ACTIVE, with no quarantine cause. -/
def StationRec.activated (r : StationRec) : StationRec :=
  { r with lifecycle := .active, cartridge := r.cartridge.map (fun c => { c with cause := none }) }

/-- The code of a station's trust class, as events carry it. -/
def State.trustValue (s : State) (i : Station) : Nat := ((s.station i).cartridge.map (fun c => trustCode c.trust)).getD 0

/-- Enter ACTIVE: the activation transfer, then ACTIVATED with the class (R9). -/
def State.enterActive (s : State) (i : Station) : State :=
  let s1 := (s.modStation i StationRec.activated).activationTransfer i
  s1.raise .activated (some i) (s1.trustValue i)

/-! ## Entry to IDENTIFYING (R5, R11) -/

/-- The cartridge record of a new holding (R5). -/
def CartridgeRecord.fresh : CartridgeRecord :=
  { identity := none, capacity := none, trust := .pending, authenticated := false, cause := none, origin := none,
    evidence := EvidenceSet.empty, account := none, emptyLatch := false, refillMark := false, band := none,
    bandChanged := false, overdrawRaised := false, emptyRaised := false, usedSaturated := false }

/-- A new holding begins: the old record is discarded, the state is IDENTIFYING (R5). -/
def StationRec.newHolding (r : StationRec) : StationRec :=
  { r with lifecycle := .identifying, seatTimer := false, cartridge := some CartridgeRecord.fresh }

/-- Enter IDENTIFYING: a new holding, and the auth context with its READ_ID (R11, R63). -/
def State.enterIdentifying (s : State) (i : Station) : State := (s.modStation i StationRec.newHolding).startContext i false

/-! ## Reconciliation (R150, R151) -/

/-- Set the provisional figures: used, last_written and the write-back base from the tag and, where there is one, the departed entry
(R150, R135). -/
def CartridgeRecord.reconciled (c : CartridgeRecord) (id : Identity) (e : Option DepartedEntry) : CartridgeRecord :=
  let used := match e with
    | some e => if e.used < id.tagUsed then id.tagUsed else e.used
    | none => id.tagUsed
  { c with account := some ⟨used, id.tagUsed, id.tagUsed, id.tagFlags⟩,
           origin := some (match e with
             | some e => .restored e.cls
             | none => .new) }

/-- The kinds of evidence that an arrival shows, in the order they are recorded (R150, R151, R153). -/
def arrivalEvidence (id : Identity) (e : Option DepartedEntry) : List EvidenceKind :=
  (match e with
    | some e => if id.tagUsed < e.lastWritten then [.rollback] else []
    | none => if id.tagFlags.emptyLatch then [.emptyReturn] else [])
    ++ (if id.tagFlags.refillMark then [.marked] else [])

/-- Evidence merged in from the departed entry, without an event (R151 step 2). -/
def CartridgeRecord.mergeEntry (e : Option DepartedEntry) (c : CartridgeRecord) : CartridgeRecord :=
  match e with
  | some e => { c with evidence := c.evidence.union e.evidence }
  | none => c

/-- Reconcile a station's cartridge with the departed table and its tag: figures, band, merged evidence, then the evidence that the
arrival shows (R150, R151). -/
def State.reconcile (s : State) (i : Station) (id : Identity) : State :=
  let e := s.departed.lookup id.serial
  let s1 := (s.modCartridge i (fun c => c.reconciled id e)).computeBand i
  (arrivalEvidence id e).foldl (fun s k => s.recordEvidence i k) (s1.modCartridge i (CartridgeRecord.mergeEntry e))

/-! ## The presence and ink-sense inputs (R10, R21, R156 to R158) -/

/-- The debouncer at the entry to SEATED from VACANT: baseline cleared, reading absent, settle timer restarted at the input's level; a
stopped debouncer stays as it is (R156). -/
def InkSense.atSeating (running input : Bool) (k : InkSense) : InkSense :=
  if running then { candidate := input, settle := true, reading := none, baseline := none } else k

/-- VACANT to SEATED, with the seat timer started (R10). -/
def StationRec.seat (input : Bool) (r : StationRec) : StationRec :=
  { r with lifecycle := .seated, seatTimer := true, ink := r.ink.atSeating r.config.inkSenseEnable input }

/-- What an assertion of the presence input does to a record: seating in VACANT, the removal timer stopped in a held state
(R10, R21). -/
def StationRec.presenceRise (input : Bool) (r : StationRec) : StationRec :=
  if r.lifecycle = .vacant then r.seat input
  else if r.lifecycle.held then { r with removalTimer := false } else r

/-- What a deassertion of the presence input does to a record: SEATED back to VACANT, the removal timer started in a held state
(R10, R21). -/
def StationRec.presenceFall (r : StationRec) : StationRec :=
  if r.lifecycle = .seated then { r with lifecycle := .vacant, seatTimer := false }
  else if r.lifecycle.held then { r with removalTimer := true } else r

/-- The presence input asserts: its level is kept whatever the part does (start-up samples it); the station acts in service only (R190). -/
def State.presenceRise (s : State) (i : Station) : State :=
  if s.presence[i] then s
  else (s.withPresence (s.presence.set i true)).whenInService
    (fun s => s.modStation i (StationRec.presenceRise s.inkInputs[i]))

/-- The presence input deasserts. -/
def State.presenceFall (s : State) (i : Station) : State :=
  if s.presence[i] then
    (s.withPresence (s.presence.set i false)).whenInService (fun s => s.modStation i StationRec.presenceFall)
  else s

/-- A reading taken: it becomes the reading, and the baseline where that is absent (R156, R157). -/
def InkSense.takeReading (k : InkSense) : InkSense :=
  { k with settle := false, reading := some k.candidate,
           baseline := some (k.baseline.getD k.candidate) }

/-- A reading that is taken now is a rise: the baseline is present and the reading goes from ABSENT to PRESENT (R158). -/
def InkSense.rises (k : InkSense) : Bool := k.baseline.isSome && k.reading == some false && k.candidate

/-- The settle timer's expiry on a station: a reading is taken where it differs or none is present; a rise in ACTIVE or QUARANTINED is
evidence SENSE_RISE (R156 to R158). -/
def State.settleInk (s : State) (i : Station) : State :=
  let k := (s.station i).ink
  if k.reading = some k.candidate then s.modStation i (fun r => { r with ink := { r.ink with settle := false } })
  else
    let s1 := s.modStation i (fun r => { r with ink := r.ink.takeReading })
    if k.rises && ((s.station i).lifecycle == .active || (s.station i).lifecycle == .quarantined) then
      s1.recordEvidence i .senseRise
    else s1

end Sys2Proof.Machine
end

