-- ==== Sys2Proof/Machine/AuthOps.lean ====
section
/-! DEFINITION. The authentication engine's shared operations: attempts, the endings of an authentication, identification and recheck
reads, and the results of its bus jobs (chapter 4, R12 to R15, R37). -/

namespace Sys2Proof.Machine

/-! ## Attempts (R64, R66) -/

/-- A context at step CHALLENGE with a challenge just drawn (R64). -/
def AuthContext.challenged (c : AuthContext) (challenge : Digest) : AuthContext :=
  { c with step := .challenge, challenge := some challenge }

/-- A CHALLENGE job with its 8-byte payload, most significant byte first (R64). -/
def Job.challengeJob (i : Station) (challenge : Digest) : Job :=
  { Job.fresh (some i) .challenge .auth with payload := some (beBytes 8 challenge.toNat) }

/-- Begin an attempt: draw a challenge, store it, queue the CHALLENGE job (R64). -/
def State.beginAttempt (s : State) (i : Station) (c : AuthContext) : State :=
  let challenge := Config.randomDraw s.draws
  ((s.withDraws (s.draws + 1)).setContext i (some (c.challenged challenge))).enqueue (Job.challengeJob i challenge)

/-- The cause that a second attempt's ending gives (R66). -/
def AttemptEnding.cause : AttemptEnding → QuarantineCause
  | .noAnswer => .noResponse
  | .mismatch => .badResponse

/-- An attempt ends without a match: attempt 2 begins, or the authentication has failed (R66). -/
def State.endAttempt (s : State) (i : Station) (c : AuthContext) (e : AttemptEnding) : State :=
  if c.attempt = 1 then s.beginAttempt i { c with attempt := 2, lastEnding := some e }
  else s.enterQuarantined i e.cause

/-! ## The pass (R15, R75, R80) -/

/-- The class that a first pass carries: REFILLED with any evidence or with a carried class of REFILLED (R75). -/
def CartridgeRecord.passClass (c : CartridgeRecord) : AccountClass :=
  if c.evidence = EvidenceSet.empty ∧ c.origin ≠ some (.restored .refilled) then .genuine else .refilled

/-- A record at its first pass: authenticated, with the class the pass carries (R15 step 1). -/
def CartridgeRecord.passed (c : CartridgeRecord) : CartridgeRecord :=
  { c with authenticated := true, trust := c.passClass.trust }

/-- The move that ends a first pass: QUARANTINED with REFILL for a REFILLED class under policy QUARANTINE, otherwise ACTIVE (R15 step
5). -/
def State.moveAfterPass (s : State) (i : Station) (cls : AccountClass) : State :=
  match cls, s.part.policy with
  | .refilled, .quarantine => s.enterQuarantined i .refill
  | .refilled, .warn | .genuine, _ => s.enterActive i

/-- A first authentication passes: flag and class, consumption, checkpoint, context, move (R15). -/
def State.firstPass (s : State) (i : Station) : State :=
  match (s.station i).cartridge with
  | none => s
  | some c =>
    let s1 := s.modCartridge i CartridgeRecord.passed
    let s2 := match c.identity with
      | some id => s1.consumeDeparted id.serial
      | none => s1
    ((s2.writeCheckpoint i).setContext i none).moveAfterPass i c.passClass

/-- A recheck passes: the context is cleared and RECHECK_PASSED raised (R80). -/
def State.recheckPass (s : State) (i : Station) : State :=
  (s.setContext i none).raise .recheckPassed (some i) (s.trustValue i)

/-! ## Identification (R12 to R14, R37) -/

/-- Check 2: the capacity in its range and the key index at most 15 (R13). -/
def fieldsInRange (data : List Byte) : Bool :=
  1000000 ≤ readCapacity data && readCapacity data ≤ 2000000000 && (byteAt data 14).toNat ≤ 15

/-- Another station that holds a serial (R13 check 4, R17). -/
def State.heldElsewhere (s : State) (i : Station) (serial : Serial) : Bool :=
  stationList.any (fun k => k != i && (s.station k).lifecycle.holdsSerial
    && ((s.station k).cartridge.bind (·.identity)).any (fun id => id.serial == serial))

/-- Checks 3 to 6 of an identification, in order: the first that fails gives its cause (R13). -/
def State.laterChecks (s : State) (i : Station) (id : Identity) : Option QuarantineCause :=
  let expected := (s.station i).config.expectedInk
  if expected ≠ 0 ∧ id.inkType ≠ expected then some .wrongInk
  else if s.heldElsewhere i id.serial then some .duplicate
  else
    match s.keyState id.keyIndex with
    | none | some .empty => some .keyAbsent
    | some .revoked => some .keyRevoked
    | some .live => none

/-- The identity fields, the tag used at arrival and the two tag flags recorded together (R4, R37). -/
def CartridgeRecord.identified (data : List Byte) (c : CartridgeRecord) : CartridgeRecord :=
  let id := readIdentity data
  { c with identity := some id, capacity := some (readCapacity data), emptyLatch := id.tagFlags.emptyLatch,
           refillMark := id.tagFlags.refillMark }

/-- All six checks have passed: reconciliation, AUTHENTICATING, and attempt 1 with the tag used at arrival as the digest used (R14,
R63). -/
def State.enterAuthenticating (s : State) (i : Station) (id : Identity) : State :=
  let s1 := (s.reconcile i id).modStation i (fun r => { r with lifecycle := .authenticating })
  match s1.context i with
  | some c => s1.beginAttempt i { c with digestUsed := some id.tagUsed }
  | none => s1

/-- The identification checks on the bytes of a READ_ID that ended DONE (R13). -/
def State.identifyCartridge (s : State) (i : Station) (data : List Byte) : State :=
  if recordsGood data && fieldsInRange data then
    let s1 := s.modCartridge i (CartridgeRecord.identified data)
    match s1.laterChecks i (readIdentity data) with
    | some cause => s1.enterQuarantined i cause
    | none => s1.enterAuthenticating i (readIdentity data)
  else s.enterQuarantined i .malformed

/-! ## The recheck's read (R37, R79) -/

/-- The evidence that a recheck's read shows: a tag below or above the held last_written (R79). -/
def recheckEvidence (lastWritten tagUsed : Nat) : Option EvidenceKind :=
  if tagUsed < lastWritten then some .rollback else if lastWritten < tagUsed then some .conflict else none

/-- Evidence recorded, where there is any. -/
def State.recordIfAny (s : State) (i : Station) : Option EvidenceKind → State
  | some k => s.recordEvidence i k
  | none => s

/-- After the tests of a recheck's read: attempt 1, unless the evidence has abandoned the recheck (R79). -/
def State.continueRecheck (s : State) (i : Station) (tagUsed : Nat) : State :=
  match s.context i with
  | some c => s.beginAttempt i { c with digestUsed := some tagUsed }
  | none => s

/-- The recheck tests on the bytes of a READ_ID that ended DONE (R37, R79). -/
def State.recheckRead (s : State) (i : Station) (data : List Byte) : State :=
  match (s.station i).cartridge with
  | none => s
  | some c =>
    match c.identity, c.account with
    | some id, some a =>
      if recordsGood data && readSerial data == id.serial then
        (s.recordIfAny i (recheckEvidence a.lastWritten (readTagUsed data))).continueRecheck i (readTagUsed data)
      else s.enterQuarantined i .malformed
    | _, _ => s

/-! ## Results of AUTH jobs (R12, R65, R79) -/

/-- The VERIFY request of a context whose response has been read (R68, R69). -/
def verifyRequest (i : Station) (c : AuthContext) (id : Identity) (response : Digest) : Option VerifyRequest :=
  match c.challenge, c.digestUsed with
  | some challenge, some used => some ⟨i, id.keyIndex, id.serial, challenge, used, id.fillGeneration, response⟩
  | _, _ => none

/-- The context moves to VERIFY and its request enters the digest FIFO at the tail (R65, R69). -/
def State.sendVerify (s : State) (i : Station) (c : AuthContext) (response : Digest) : State :=
  let s1 := s.setContext i (some { c with step := .verify })
  match ((s.station i).cartridge.bind (·.identity)).bind (fun id => verifyRequest i c id response) with
  | some r => s1.withAuth { s1.auth with fifo := s1.auth.fifo ++ [r] }
  | none => s1

/-- A READ_ID's result at a context (R12, R63, R79). -/
def State.readIdResult (s : State) (i : Station) (c : AuthContext) (result : JobResult) (data : List Byte) : State :=
  match result with
  | .done => if c.recheck then s.recheckRead i data else s.identifyCartridge i data
  | .nack | .timeout | .refused | .busFault => s.enterQuarantined i .noTag
  | .removed | .aborted => s

/-- A CHALLENGE job's result at a context (R65). -/
def State.challengeResult (s : State) (i : Station) (c : AuthContext) (result : JobResult) : State :=
  match result with
  | .done => (s.setContext i (some { c with step := .response })).enqueue (Job.fresh (some i) .response .auth)
  | .nack | .timeout | .refused | .busFault => s.endAttempt i c .noAnswer
  | .removed | .aborted => s

/-- A RESPONSE job's result at a context; a DONE carries the 8 response bytes (R65). -/
def State.responseResult (s : State) (i : Station) (c : AuthContext) (result : JobResult) (data : List Byte) : State :=
  match result with
  | .done => s.sendVerify i c (BitVec.ofNat 64 (beNumber data))
  | .nack | .timeout | .refused | .busFault => s.endAttempt i c .noAnswer
  | .removed | .aborted => s

/-- The result of an AUTH job reaches the context of its station, by the context's step; where no context is present it is discarded
(R65, R67). -/
def State.authResult (s : State) (i : Station) (result : JobResult) (data : List Byte) : State :=
  match s.context i with
  | none => s
  | some c =>
    match c.step with
    | .read => s.readIdResult i c result data
    | .challenge => s.challengeResult i c result
    | .response => s.responseResult i c result data
    | .verify => s

/-! ## The digest unit (R68 to R70) -/

/-- The digest that a request's computation yields, with the secret its key slot holds at the start (R68, R70). -/
def State.expectedDigest (s : State) (r : VerifyRequest) : Digest :=
  Config.digest (s.liveSecret r.keyIndex) r.serial r.challenge r.digestUsed r.fillGeneration

/-- Take the request at the head of the FIFO into computation, where none is in computation (R69). -/
def State.startVerify (s : State) : State :=
  match s.auth.computing, s.auth.fifo with
  | none, r :: rest => s.withAuth { s.auth with fifo := rest, computing := some ⟨r, s.expectedDigest r, false⟩ }
  | _, _ => s

/-- A completion's outcome at the station's context (R70). -/
def State.verifyOutcome (s : State) (c : Computation) : State :=
  let i := c.request.station
  match s.context i with
  | none => s
  | some x =>
    if s.keyState c.request.keyIndex = some .revoked then s.enterQuarantined i .keyRevoked
    else if c.expected = c.request.response then if x.recheck then s.recheckPass i else s.firstPass i
    else s.endAttempt i x .mismatch

/-- A computation ends: the unit is free, and a request that was not withdrawn has its completion (R69, R70). -/
def State.completeVerify (s : State) : State :=
  match s.auth.computing with
  | none => s
  | some c =>
    let s1 := s.withAuth { s.auth with computing := none }
    if c.withdrawn then s1 else s1.verifyOutcome c

end Sys2Proof.Machine
end

