-- ==== Sys2Proof/Machine/AuthRows.lean ====
section
/-! DEFINITION. The meanings of the digest unit's commands (R69, R70). The unit stops while the part is HALTED (R71). -/

namespace Sys2Proof.Machine

/-- VERIFY_COMPUTATION_START (R69). -/
def execVerifyComputationStart (s : State) : Host.Outcome State Fault Refusal := .next (s.whenInService State.startVerify)

/-- VERIFY_COMPLETION (R70). -/
def execVerifyCompletion (s : State) : Host.Outcome State Fault Refusal := .next (s.whenInService State.completeVerify)

end Sys2Proof.Machine
end

