-- ==== Sys2Proof/Machine/JobOps.lean ====
section
/-! DEFINITION. The bus engine's shared operations: delivering results and ending jobs, attempts, the arbiter's choice, opening and
freeing the bus, losing arbitration, recovery (chapter 3), and what write-back results do (R20, R139, R140). -/

namespace Sys2Proof.Machine

/-! ## Results of write-backs (R20, R139, R140) -/

/-- last_written becomes a figure that was written (R139). -/
def CartridgeRecord.written (used : Nat) (c : CartridgeRecord) : CartridgeRecord :=
  { c with account := c.account.map (fun a => { a with lastWritten := used }) }

/-- A departure is completed: entry, checkpoint clearing, RELEASED, and WRITEBACK_FAILED for a result other than DONE (R20). It is
reached from DEPARTING only. -/
def State.completeDeparture (s : State) (i : Station) (failure : Option JobResult) : State :=
  if (s.station i).lifecycle = .departing then
    let s1 := (s.enterDeparted i).modStation i (fun r => { r with lifecycle := .released })
    match failure with
    | some r => s1.raise .writebackFailed (some i) (resultCode r)
    | none => s1
  else s

/-- What a write-back that ended otherwise than DONE does (R140). -/
def State.writeBackFailed (s : State) (i : Station) (cls : JobClass) (result : JobResult) : State :=
  let s1 := if result = .refused then s.recordEvidence i .conflict else s
  if cls = .depart then s1.completeDeparture i (some result)
  else if result = .refused then s1 else s1.raise .writebackFailed (some i) (resultCode result)

/-- The figure that a job wrote goes into last_written (R139 step 1). -/
def State.recordWritten (s : State) (i : Station) (j : Job) : State :=
  match j.written with
  | some (used, _) => s.modCartridge i (CartridgeRecord.written used)
  | none => s

/-- A WRITE_USAGE job's result at its station (R139, R140); a withdrawn job's is discarded (R44). -/
def State.writeBackResult (s : State) (i : Station) (j : Job) (result : JobResult) : State :=
  if j.disowned then s
  else
    match result with
    | .done =>
      let s1 := (s.recordWritten i j).writeCheckpoint i
      if j.cls = .depart then s1.completeDeparture i none else s1
    | .nack | .timeout | .refused | .busFault => s.writeBackFailed i j.cls result
    | .removed | .aborted => s

/-! ## The end of a job (R51, R56) -/

/-- The entry that a finished host job makes in the host job result table (R56). -/
def Job.resultEntry (j : Job) (i : Station) (result : JobResult) (data : List Byte) : HostResult :=
  { handle := j.handle, station := i, kind := j.kind, result, lastFailure := j.lastFailure,
    data := if j.kind = .hostRead ∧ result = .done then data else [] }

/-- A host job's end: its entry and JOB_DONE while the part is OPERATING, neither at SHUTDOWN (R56, R61). -/
def State.hostResult (s : State) (i : Station) (j : Job) (result : JobResult) (data : List Byte) : State :=
  match s.operating with
  | .operating =>
    (s.withBus { s.bus with results := s.bus.results ++ [j.resultEntry i result data] }).raise .jobDone (some i) j.handle
  | .halted => s

/-- Deliver a job's result to the block that asked for it (R51). -/
def State.deliver (s : State) (j : Job) (result : JobResult) (data : List Byte) : State :=
  match j.target with
  | none => s
  | some i =>
    match j.kind with
    | .wake => s
    | .readId | .challenge | .response => if j.disowned then s else s.authResult i result data
    | .writeUsage => s.writeBackResult i j result
    | .hostRead | .hostWrite => s.hostResult i j result data

/-- A job leaves the queue and its result is delivered (R51). -/
def State.retireJob (s : State) (j : Job) (result : JobResult) (data : List Byte) : State :=
  (s.withBus (s.bus.removeJob j.handle)).deliver j result data

/-- Whether a result keeps a job's follow-on mark in force (R43). -/
def JobResult.keepsFollowOn : JobResult → Bool
  | .done | .nack | .timeout | .refused | .busFault => true
  | .removed | .aborted => false

/-- The follow-on write-back of a job that has ended (R43, R51). -/
def State.followOn (s : State) (j : Job) (result : JobResult) : State :=
  match j.target, j.followOn with
  | some i, some c => if result.keepsFollowOn then s.requestWriteBack i c else s
  | _, _ => s

/-- The first job of a context that waited for the station's earlier AUTH job (R44); while the part is HALTED the context stays as it
stood, and none is queued (R67, log entry 16). -/
def State.afterAuthJob (s : State) (j : Job) : State :=
  match j.target, j.cls, s.operating with
  | some i, .auth, .operating => s.queueDueJob i
  | _, _, _ => s

/-- A job ends: it leaves the queue, its result is delivered, then its follow-on is queued (R51). -/
def State.endJob (s : State) (j : Job) (result : JobResult) (data : List Byte) : State :=
  ((s.retireJob j result data).followOn j result).afterAuthJob j

/-- The result with which a cut ends a job (R46, R51, R60, R61). -/
def CutReason.result : CutReason → JobResult
  | .removal => .removed
  | .abort | .shutdown => .aborted

/-! ## The bus condition (R52) -/

/-- The bus returns to FREE: nothing is on it, no condition timer runs, and no recovery has failed since (R52, R163). -/
def Bus.freed (b : Bus) : Bus :=
  { b with condition := .free, foreignTimer := false, faultTimer := false, failedRecoveries := 0, transaction := none }

/-- The engine's transaction has ended with a stop. -/
def State.freeBus (s : State) : State := s.withBus s.bus.freed

/-- Open a transaction for a job with a start condition, at the bus speed then configured (R46, R52). -/
def State.openTransaction (s : State) (handle : Nat) (f : Job → Job) (elements : List BusElement) : State :=
  s.withBus { s.bus.updateJob handle f with condition := .own, transaction := some ⟨s.part.busSpeed, elements⟩ }

/-- Open the status phase of an ACTIVE write job (R49). -/
def State.openStatus (s : State) (j : Job) : State :=
  s.openTransaction j.handle (fun j => { j with phase := .status, timer := none }) j.statusRead

/-- An ACTIVE job that waits between its phases, where there is one, goes on once the bus is FREE (R52). -/
def State.continueBetween (s : State) : State :=
  match s.bus.activeJob with
  | some j => if j.phase = .between then s.openStatus j else s
  | none => s

/-- The condition becomes FOREIGN, timed from now on (R52). -/
def Bus.foreign (b : Bus) : Bus := { b with condition := .foreign, foreignTimer := true, transaction := none }

/-! ## Attempts (R50) -/

/-- A failure as a last failure. -/
def AttemptFailure.last : AttemptFailure → LastFailure
  | .nack => .nack | .timeout => .timeout | .busFault => .busFault

/-- A failure as the result of a job whose attempts are spent (R50). -/
def AttemptFailure.result : AttemptFailure → JobResult
  | .nack => .nack | .timeout => .timeout | .busFault => .busFault

/-- A job after a failed attempt: the failure noted, one attempt fewer (R50 steps 1 and 2). -/
def Job.spend (f : AttemptFailure) (j : Job) : Job := { j with lastFailure := f.last, attempts := j.attempts - 1 }

/-- A job in RETRY with its retry timer at a spacing, or without one (R50, R53). -/
def Job.toRetry (timer : Option Nat) (j : Job) : Job := { j with state := .retry, timer, phase := .transaction }

/-- A failed attempt: RETRY while attempts remain, otherwise the end with the failure as result (R50). That a job to be cut whose
transaction meets a NACK or a stuck bus before its byte boundary ends there with the result of its cut, its last failure as it was before,
is the model's choice (log entry 15): R50 step 1 notes the failure at every failed attempt, and R46 ends the job by its cut. -/
def State.failedAttempt (s : State) (j : Job) (f : AttemptFailure) : State :=
  match j.cut with
  | some r => s.endJob j r.result []
  | none =>
    let j1 := j.spend f
    if j1.attempts = 0 then s.endJob j1 f.result []
    else s.withBus (s.bus.updateJob j.handle (fun _ => j1.toRetry (some s.part.pollSpacing)))

/-- A transaction ended a job with a result (R46). That a job to be cut whose transaction ends of itself before its cut ends with the
result of its cut is the model's choice (log entry 15). -/
def State.finishJob (s : State) (j : Job) (result : JobResult) (data : List Byte) : State :=
  match j.cut with
  | some r => s.endJob j r.result []
  | none => s.endJob j result data

/-- The engine loses the bus to another master: FOREIGN, and the ACTIVE job in RETRY with last failure LOST and no timer (R53). The
condition becomes FOREIGN also while the part is HALTED, for the job that SHUTDOWN cuts (log entry 14). That a job to be cut which loses
the bus before its byte boundary ends there with the result of its cut, its last failure as it was before and not LOST, is the model's
choice (log entry 15): R50 and R53 put a job that loses in RETRY with LOST, and R46 ends the job by its cut. -/
def State.loseArbitration (s : State) (j : Job) : State :=
  let s1 := s.withBus s.bus.foreign
  match j.cut with
  | some r => s1.endJob j r.result []
  | none => s1.withBus (s1.bus.updateJob j.handle (fun j => { j.toRetry none with lastFailure := .lost }))

/-- Whether a write job's status phase is on the bus, or can be opened at once: between the phases with the bus FREE (R49, R52). -/
def Bus.statusOpen (b : Bus) (j : Job) : Bool :=
  (j.phase == .status && b.condition == .own) || (j.phase == .between && b.condition == .free)

/-! ## The arbiter (R45) -/

/-- The station has an auth context. -/
def State.hasContext (s : State) (i : Station) : Bool := (s.context i).isSome

/-- Whether a job waits with nothing to wait for: QUEUED, or in POLLING or RETRY with no timer running (R45). -/
def Job.ready (j : Job) : Bool :=
  match j.state with
  | .queued => true
  | .polling | .retry => j.timer.isNone
  | .active => false

/-- A job that the arbiter may start (R45): no WRITE_USAGE of a station while that station has an auth context. One point is the model's
choice (log entry 38): a write-back that is ACTIVE as a context is created, and then fails its attempt or loses arbitration, is held in
RETRY by the context while the context's READ_ID starts. This is so at a recheck, of which R78 and R45 say that the write-back runs to its
end before the READ_ID starts, and at a new identification, as of a withdrawn write-back in flight at AUTHENTICATE in QUARANTINED, which by
R18 and R44 runs to its end. R45's list of the jobs that may start, and R49, which keeps a write job ACTIVE until it ends or returns to
RETRY, leave it there. -/
def State.eligible (s : State) (j : Job) : Bool :=
  j.ready && !(j.kind == .writeUsage && j.target.any s.hasContext) && s.operating == .operating

/-- The oldest of the jobs with the lowest class number, in enqueue order (R45). -/
def oldestOfLowestClass (jobs : List Job) : Option Job :=
  jobs.find? (fun j => jobs.all (fun k => classNumber j.cls ≤ classNumber k.cls))

/-- The job that the arbiter would start (R45). -/
def State.arbiterChoice (s : State) : Option Job := oldestOfLowestClass (s.bus.jobs.filter s.eligible)

/-- The arbiter can start a job: the engine is free and the bus is FREE (R45). -/
def Bus.arbiterFree (b : Bus) : Bool := b.activeJob.isNone && b.condition == .free

/-- The base of a record that a composing job sets (R135, R138). -/
def CartridgeRecord.rebased (c : CartridgeRecord) : CartridgeRecord :=
  { c with account := c.account.map (fun a => { a with baseUsed := a.used, baseFlags := c.flags }) }

/-- A WRITE_USAGE job with the payload composed from a record (R38, R138). -/
def Job.composed (partId : BitVec 32) (c : Option CartridgeRecord) (j : Job) : Job :=
  match c, c.bind (·.account) with
  | some c, some a =>
    { j with payload := some (usageWriteBytes a.used c.flags partId), written := some (a.used, c.flags) }
  | _, _ => j

/-- A WRITE_USAGE job that has never started composes its payload and sets the write-back base when it first becomes ACTIVE (R138). -/
def Job.composes (j : Job) : Bool := j.kind == .writeUsage && j.state == .queued

/-- A job as it becomes ACTIVE: a new attempt counts its polls from 0, a poll goes on counting (R40, R48). A job that comes back from a
loss of arbitration counts from 0, as a new attempt does; for a RESPONSE the manual does not say (R53, log entry 33). -/
def Job.started (j : Job) : Job :=
  { j with state := .active, timer := none, phase := .transaction, polls := if j.state = .polling then j.polls else 0 }

/-- Start a job: compose where it is due, become ACTIVE, open the transaction (R45, R46, R138). -/
def State.startJob (s : State) (j : Job) : State :=
  match j.composes, j.target with
  | true, some i =>
    let j1 := (j.composed s.store.partId (s.station i).cartridge).started
    (s.modCartridge i CartridgeRecord.rebased).openTransaction j.handle (fun _ => j1) j1.opening
  | _, _ => s.openTransaction j.handle Job.started j.opening

/-! ## Cutting jobs (R46, R51, R60) -/

/-- Whether a job has a byte on the bus: it is ACTIVE and the transaction is the engine's (R46, R60). -/
def Bus.onBus (b : Bus) (j : Job) : Bool := j.state == .active && b.condition == .own

/-- The reason for which a job ends that is to be cut for a second reason too: a free choice of the two (log entry 15). -/
def CutReason.after (first later : CutReason) : CutReason :=
  if Config.laterCutHolds (first == .removal) then later else first

/-- Mark a job to be cut at its next byte boundary (R46). -/
def Job.marked (r : CutReason) (j : Job) : Job :=
  { j with cut := some (match j.cut with | some first => first.after r | none => r) }

/-- Whether a job is of a station. -/
def Job.isOf (i : Station) (j : Job) : Bool := j.target == some i

/-- The removal of a station's jobs: those with no byte on the bus end REMOVED at once, the one with a byte on the bus is to be cut
(R22 step 1, R51). Two points are the model's choice (log entry 16): an ACTIVE write job between its phases or its status polls, which has
no byte on the bus, ends at once, as R60 has it for an abort, while R22 and R51 name only an ACTIVE job's next byte boundary and a POLLING
job; and jobs that end together end in the queue's order, which the manual does not give. -/
def State.removeJobs (s : State) (i : Station) : State :=
  let ending := s.bus.jobs.filter (fun j => j.isOf i && !s.bus.onBus j)
  let s1 := s.withBus { s.bus with jobs := s.bus.jobs.map (fun j => if j.isOf i && s.bus.onBus j then j.marked .removal else j) }
  ending.foldl (fun s j => s.retireJob j .removed []) s1

/-! ## Recovery (R54, R55) -/

/-- A recovery succeeds: FREE, BUS_RECOVERED, a WAKE, and the end of BUS_FAULT (R54). -/
def State.recovered (s : State) : State :=
  ((s.freeBus.raise .busRecovered none 0).requestWake).endCondition .busFault

/-- A recovery fails: FAULT, one more failed recovery, BUS_FAULT with the count, the 100 ms retry timed (R55, R163). -/
def State.recoveryFailed (s : State) : State :=
  let n := s.bus.failedRecoveries + 1
  (s.withBus { s.bus with condition := .fault, faultTimer := true, failedRecoveries := n, transaction := none }).raiseCondition
    .busFault (failureValue n)

/-- A recovery's end by what CBD then reads (R54, R55). -/
def State.endRecovery (s : State) (cbdHigh : Bool) : State := if cbdHigh then s.recovered else s.recoveryFailed

/-- A stuck bus: the ACTIVE job's attempt fails, BUS_BLOCKED ends in FOREIGN, the condition becomes RECOVERY (R54). -/
def State.stuck (s : State) : State :=
  let s1 := match s.bus.activeJob with
    | some j => s.failedAttempt j .busFault
    | none => s
  let s2 := if s.bus.condition = .foreign then s1.endCondition .busBlocked else s1
  s2.withBus { s2.bus with condition := .recovery, foreignTimer := false, transaction := none }

end Sys2Proof.Machine
end

