-- ==== Sys2Proof/Machine/BusRows.lean ====
section
/-! DEFINITION. The meanings of the cartridge bus engine's commands (chapter 3). A command that cannot occur as the bus and its jobs stand
changes nothing. -/

namespace Sys2Proof.Machine

/-- ARBITER_START_JOB (R45). -/
def execArbiterStartJob (s : State) : Host.Outcome State Fault Refusal :=
  .next (s.whenInService (fun s =>
    if s.bus.arbiterFree then
      match s.arbiterChoice with
      | some j => s.startJob j
      | none => s
    else s))

/-- Act on the ACTIVE job while the engine's transaction is on the bus; otherwise nothing happens. -/
def State.onTransaction (s : State) (f : State → Job → State) : State :=
  match s.bus.activeJob with
  | some j => if s.bus.condition = .own then f s j else s
  | none => s

/-- How many bytes a job's transaction delivers with DONE (R47, R48). -/
def Job.readLength (j : Job) : Nat :=
  match j.kind with
  | .readId => 36
  | .response => 8
  | .hostRead => j.length
  | .wake | .challenge | .writeUsage | .hostWrite => 0

/-- The end of a transaction of a kind without a status phase: a WAKE ends DONE whatever is acknowledged, a NACK fails another job's attempt
(R47). -/
def State.endTransaction (s : State) (j : Job) (how : TransferEnd) : State :=
  match j.kind, how with
  | .wake, _ => s.freeBus.finishJob j .done []
  | .readId, .done data | .challenge, .done data | .hostRead, .done data =>
    if data.length = j.readLength then s.freeBus.finishJob j .done data else s
  | .readId, .nack | .challenge, .nack | .hostRead, .nack => s.freeBus.failedAttempt j .nack
  | .response, _ | .writeUsage, _ | .hostWrite, _ => s

/-- JOB_TRANSACTION_END (R47). -/
def execJobTransactionEnd (how : TransferEnd) (s : State) : Host.Outcome State Fault Refusal :=
  .next (s.whenRunning (fun s => s.onTransaction (fun s j => s.endTransaction j how)))

/-- A poll counted: POLLING below 8, a TIMEOUT of the attempt at 8; a job that was to be cut ends (R48). -/
def State.pollResponse (s : State) (j : Job) : State :=
  let j1 := { j with polls := j.polls + 1 }
  if j1.polls < 8 ∧ j.cut = none then
    s.freeBus.withBus (s.freeBus.bus.updateJob j.handle
      (fun _ => { j1 with state := .polling, timer := some s.part.pollSpacing }))
  else s.freeBus.failedAttempt j1 .timeout

/-- RESPONSE_POLL (R48). -/
def execResponsePoll (s : State) : Host.Outcome State Fault Refusal :=
  .next (s.whenRunning (fun s => s.onTransaction (fun s j => if j.kind = .response then s.pollResponse j else s)))

/-- The end of a RESPONSE read whose address was acknowledged (R48). -/
def State.endResponse (s : State) (j : Job) : Option Digest → State
  | some d => s.freeBus.finishJob j .done (beBytes 8 d.toNat)
  | none => s.freeBus.failedAttempt j .nack

/-- RESPONSE_READ_END (R48). -/
def execResponseReadEnd (response : Option Digest) (s : State) : Host.Outcome State Fault Refusal :=
  .next (s.whenRunning (fun s => s.onTransaction (fun s j => if j.kind = .response then s.endResponse j response else s)))

/-- Stop the timers of the jobs with this handle that are in a state (R45, R48, R50). -/
def State.stopJobTimer (s : State) (handle : Nat) (state : JobState) : State :=
  s.withBus (s.bus.updateJob handle (fun j => if j.state = state then { j with timer := none } else j))

/-- POLL_TIMER_EXPIRY (R48). -/
def execPollTimerExpiry (handle : Nat) (s : State) : Host.Outcome State Fault Refusal :=
  .next (s.whenRunning (fun s => s.stopJobTimer handle .polling))

/-- RETRY_TIMER_EXPIRY (R50). -/
def execRetryTimerExpiry (handle : Nat) (s : State) : Host.Outcome State Fault Refusal :=
  .next (s.whenRunning (fun s => s.stopJobTimer handle .retry))

/-- A job with a status phase (R49). -/
def Job.writes (j : Job) : Bool := j.kind == .writeUsage || j.kind == .hostWrite

/-- The end of a write phase: a NACK fails the attempt; otherwise the bus is released and the job stands between its phases (R49). A job
that was to be cut ends. -/
def State.endWritePhase (s : State) (j : Job) (acknowledged : Bool) : State :=
  if acknowledged ∧ j.cut = none then
    s.freeBus.withBus (s.freeBus.bus.updateJob j.handle (fun j => { j with phase := .between }))
  else s.freeBus.failedAttempt j .nack

/-- WRITE_PHASE_END (R49). -/
def execWritePhaseEnd (acknowledged : Bool) (s : State) : Host.Outcome State Fault Refusal :=
  .next (s.whenRunning (fun s => s.onTransaction (fun s j =>
    if j.writes ∧ j.phase = .transaction then s.endWritePhase j acknowledged else s)))

/-- Act on the ACTIVE write job in its status phase; between the phases with the bus FREE the engine opens it (R49, R52). -/
def State.onStatus (s : State) (f : State → Job → State) : State :=
  match s.bus.activeJob with
  | some j => if j.writes && s.bus.statusOpen j then f s j else s
  | none => s

/-- A status poll counted: one poll spacing's wait below 8, a failed attempt at 8 (R49). -/
def State.pollStatus (s : State) (j : Job) : State :=
  let j1 := { j with polls := j.polls + 1 }
  if j1.polls < 8 ∧ j.cut = none then
    s.freeBus.withBus (s.freeBus.bus.updateJob j.handle
      (fun _ => { j1 with phase := .statusWait, timer := some s.part.pollSpacing }))
  else s.freeBus.failedAttempt j1 .nack

/-- STATUS_POLL (R49). -/
def execStatusPoll (s : State) : Host.Outcome State Fault Refusal := .next (s.whenRunning (fun s => s.onStatus State.pollStatus))

/-- The wait between two status polls ends: the status phase is opened again, or waits for the bus (R49, R52). -/
def State.endStatusWait (s : State) (j : Job) : State :=
  if s.bus.condition = .free then s.openStatus j
  else s.withBus (s.bus.updateJob j.handle (fun j => { j with phase := .between, timer := none }))

/-- STATUS_POLL_WAIT_EXPIRY (R49). -/
def execStatusPollWaitExpiry (s : State) : Host.Outcome State Fault Refusal :=
  .next (s.whenRunning (fun s =>
    match s.bus.activeJob with
    | some j => if j.phase = .statusWait then s.endStatusWait j else s
    | none => s))

/-- What a status byte decides (R49). -/
def State.takeStatus (status : Byte) (s : State) (j : Job) : State :=
  if status = 0 then s.freeBus.finishJob j .done []
  else if status = 1 ∧ j.kind = .writeUsage then s.freeBus.finishJob j .refused []
  else s.freeBus.failedAttempt j .nack

/-- STATUS_READ (R49). -/
def execStatusRead (status : Byte) (s : State) : Host.Outcome State Fault Refusal :=
  .next (s.whenRunning (fun s => s.onStatus (State.takeStatus status)))

/-- The marked job ends at its byte boundary with a stop (R46). -/
def State.cutJob (s : State) (j : Job) : State :=
  match j.cut with
  | some r => s.freeBus.endJob j r.result []
  | none => s

/-- JOB_CUT_AT_BYTE_BOUNDARY (R46, R51, R60, R61). -/
def execJobCutAtByteBoundary (s : State) : Host.Outcome State Fault Refusal :=
  .next (s.whenRunning (fun s => s.onTransaction State.cutJob))

/-- The engine is sending, or opens a status phase at once: the places where arbitration can be lost (R53). -/
def Bus.sending (b : Bus) (j : Job) : Bool := b.condition == .own || (j.writes && b.statusOpen j)

/-- ARBITRATION_LOST (R53). -/
def execArbitrationLost (s : State) : Host.Outcome State Fault Refusal :=
  .next (s.whenRunning (fun s =>
    match s.bus.activeJob with
    | some j => if s.bus.sending j then s.loseArbitration j else s
    | none => s))

/-- A foreign start: FOREIGN from FREE, a loss of arbitration in OWN, nothing in the other conditions (R52). While the part is HALTED the
condition stays (R61). -/
def State.foreignStart (s : State) : State :=
  match s.bus.condition with
  | .free => if s.operating = .operating then s.withBus s.bus.foreign else s
  | .own => s.onTransaction State.loseArbitration
  | .foreign | .recovery | .fault => s

/-- FOREIGN_START (R52). -/
def execForeignStart (s : State) : Host.Outcome State Fault Refusal := .next (s.whenRunning State.foreignStart)

/-- STOP_CONDITION: FOREIGN becomes FREE, BUS_BLOCKED ends, a job between its phases goes on (R52). -/
def execStopCondition (s : State) : Host.Outcome State Fault Refusal :=
  .next (s.whenInService (fun s =>
    if s.bus.condition = .foreign then (s.freeBus.endCondition .busBlocked).continueBetween else s))

/-- FOREIGN_TIMEOUT: BUS_BLOCKED is raised once for a stay in FOREIGN (R52). -/
def execForeignTimeout (s : State) : Host.Outcome State Fault Refusal :=
  .next (s.whenInService (fun s =>
    if s.bus.condition = .foreign ∧ s.bus.foreignTimer then
      (s.withBus { s.bus with foreignTimer := false }).raiseCondition .busBlocked 0
    else s))

/-- STUCK_BUS (R54). -/
def execStuckBus (s : State) : Host.Outcome State Fault Refusal :=
  .next (s.whenInService (fun s =>
    match s.bus.condition with
    | .free | .own | .foreign => s.stuck
    | .recovery | .fault => s))

/-- RECOVERY_END (R54, R55). A recovery in progress at SHUTDOWN completes (R61), with its whole effect (log entry 14). -/
def execRecoveryEnd (cbdHigh : Bool) (s : State) : Host.Outcome State Fault Refusal :=
  .next (s.whenRunning (fun s => if s.bus.condition = .recovery then s.endRecovery cbdHigh else s))

/-- FAULT_RETRY_EXPIRY (R55). -/
def execFaultRetryExpiry (cbdHigh : Bool) (s : State) : Host.Outcome State Fault Refusal :=
  .next (s.whenInService (fun s => if s.bus.condition = .fault ∧ s.bus.faultTimer then s.endRecovery cbdHigh else s))

/-- What the part does by itself where no command waits: an ACTIVE job between its phases opens its status phase on a FREE bus, which
makes the condition OWN (R49, R52); the table has no row for it (log entry 6). -/
def State.idle (s : State) : State :=
  s.whenInService (fun s => if s.bus.condition = .free then s.continueBetween else s)

end Sys2Proof.Machine
end

