-- ==== Sys2Proof/Machine/TallyOps.lean ====
section
/-! DEFINITION. The tally receiver's shared operations: the search for alignment, judging frame positions, the cycle buffer, the staged
commit, estimates, the counters and the configuration (chapter 5). -/

namespace Sys2Proof.Machine

/-! ## Timers and searches -/

/-- The cycle timer's period in microseconds: 3/2 of the nominal period, rounded down (R97). -/
def cyclePeriod (nominal : Nat) : Nat := nominal * 3 / 2

/-- Restart the cycle timer at its full period; under HOST it is stopped and stays so (R97, R104). -/
def Tally.restartCycleTimer (t : Tally) : Tally :=
  { t with cycleTimer := match t.source with
      | .link => some (cyclePeriod t.config.nominalPeriod)
      | .host => none }

/-- Enter HUNT with the search over the given kept bits; the positions that fail the tests are passed over (R88). -/
def Tally.hunt (t : Tally) (kept : List Bool) : Tally := { t with aligner := .hunt, stream := huntSkip kept }

/-- A sampled bit joins the stream; in HUNT the search goes on over it (R84, R88). -/
def Tally.takeBit (t : Tally) (bit : Bool) : Tally :=
  match t.aligner with
  | .off => t
  | .hunt => t.hunt (t.stream ++ [bit])
  | .candidate _ | .confirm _ | .sync _ _ => { t with stream := t.stream ++ [bit] }

/-- A partial cycle is discarded (R96). -/
def Tally.discardCycle (t : Tally) : Tally := { t with buffer := none }

/-! ## HUNT, CANDIDATE, CONFIRM (R88 to R90) -/

/-- The first search position's marker and index: CANDIDATE on a match (R88). -/
def Tally.huntMatch (t : Tally) : Tally :=
  match t.aligner with
  | .hunt =>
    if t.stream.length < 24 then t
    else
      match readHeader t.stream 0 with
      | some k => { t with aligner := .candidate k }
      | none => t
  | .off | .candidate _ | .confirm _ | .sync _ _ => t

/-- The test one frame length after a candidate's marker: CONFIRM on index k + 1, otherwise the search resumes at the bit after the
marker's first bit (R88, R89). -/
def Tally.candidateTest (t : Tally) : Tally :=
  match t.aligner with
  | .candidate k =>
    if t.stream.length < Config.frameBits + 24 then t
    else if readHeader t.stream Config.frameBits = some (k + 1) then { t with aligner := .confirm k }
    else t.hunt t.stream.tail
  | .off | .hunt | .confirm _ | .sync _ _ => t

/-- A cleared cycle buffer that is collecting (R93). -/
def CycleBuffer.cleared : CycleBuffer :=
  { positions := 0, sums := Vector.replicate 8 Drops.zero, temps := Vector.replicate 8 none, failed := false,
    crc := crcInitial, carried := 0 }

/-- SYNC, with the frame just tested as the first position, judged good; collection begins where its index is 0 (R90). -/
def Tally.enterSync (t : Tally) (index : Fin 8) : Tally :=
  { t with aligner := .sync (index + 1) (some true), badRun := 0, checkRun := 0
           buffer := if index = 0 then some CycleBuffer.cleared else none
           stream := t.stream.drop (2 * Config.frameBits) }

/-- The test two frame lengths after a candidate's marker: SYNC, LINK_SYNC and the end of LINK_LOST on index k + 2, otherwise the search
resumes (R90). -/
def State.confirmTest (s : State) : State :=
  match s.tally.aligner with
  | .confirm k =>
    if s.tally.stream.length < 2 * Config.frameBits + 24 then s
    else if readHeader s.tally.stream (2 * Config.frameBits) = some (k + 2) then
      ((s.withTally (s.tally.enterSync (k + 2))).raise .linkSync none (k + 2).val).endCondition .linkLost
    else s.withTally (s.tally.hunt s.tally.stream.tail)
  | .off | .hunt | .candidate _ | .sync _ _ => s

/-! ## The link counters (R100) -/

/-- A counter's maximum at a width (R100). -/
def counterMax (width : Nat) : Nat := if width = 10 then 1023 else 255

/-- A counter's next value: at its maximum it stays there (R100). -/
def countUp (width n : Nat) : Nat := satAdd (counterMax width) n 1

/-- Whether a count arrives at the maximum (R100). -/
def arrivesAtMax (width n : Nat) : Bool := n < counterMax width && countUp width n == counterMax width

/-- Count a bad frame; an arrival at the maximum raises LINK_ERRORS with value 1 (R91, R100). -/
def State.countMarkerError (s : State) : State :=
  let t := s.tally
  let s1 := s.withTally { t with markerErrors := countUp t.config.counterWidth t.markerErrors }
  if arrivesAtMax t.config.counterWidth t.markerErrors then s1.raiseCondition .linkErrors 1 else s1

/-- Count a failed check; an arrival at the maximum raises LINK_ERRORS with value 2 (R94, R100). -/
def State.countCheckError (s : State) : State :=
  let t := s.tally
  let s1 := s.withTally { t with checkErrors := countUp t.config.counterWidth t.checkErrors }
  if arrivesAtMax t.config.counterWidth t.checkErrors then s1.raiseCondition .linkErrors 2 else s1

/-! ## Judging a position (R91, R93) -/

/-- Collection begins at the first position whose expected index is 0 (R93). -/
def Tally.beginCollecting (t : Tally) (expected : Fin 8) : Tally :=
  if t.buffer = none ∧ expected = 0 then { t with buffer := some CycleBuffer.cleared } else t

/-- A good position: the bad frame run is 0, the next position expects one more (R91). -/
def Tally.judgeGood (t : Tally) (expected : Fin 8) : Tally :=
  { t with aligner := .sync (expected + 1) (some true), badRun := 0 }

/-- A bad position: the bad frame run grows and a collecting cycle is failed (R91). -/
def Tally.judgeBad (t : Tally) (expected : Fin 8) : Tally :=
  { t with aligner := .sync (expected + 1) (some false), badRun := t.badRun + 1
           buffer := t.buffer.map (fun b => { b with failed := true }) }

/-- A bad position judged, with its count and, at the loss threshold, the loss of alignment (R91). -/
def State.judgeBad (s : State) (expected : Fin 8) : State :=
  let s1 := (s.withTally (s.tally.judgeBad expected)).countMarkerError
  if s1.tally.badRun < s1.tally.config.lossThreshold then s1
  else (s1.withTally (s1.tally.discardCycle.hunt (s1.tally.stream.drop 24))).raiseCondition .linkLost 1

/-- Whether the cycle buffer waits for its cycle's end: all eight positions are taken (R94). -/
def Tally.cycleComplete (t : Tally) : Bool := t.buffer.any (fun b => b.positions == 8)

/-- Judge the position whose first three bytes have arrived (R91). -/
def State.judgeFrame (s : State) : State :=
  match s.tally.aligner with
  | .sync expected none =>
    if s.tally.stream.length < 24 || s.tally.cycleComplete then s
    else
      let s1 := s.withTally (s.tally.beginCollecting expected)
      if readHeader s.tally.stream 0 = some expected then s1.withTally (s1.tally.judgeGood expected)
      else s1.judgeBad expected
  | .off | .hunt | .candidate _ | .confirm _ | .sync _ (some _) => s

/-! ## A position complete (R85, R86, R93) -/

/-- A good frame's counts added to the sums, and its byte 43 taken as its station's temperature (R85, R93). -/
def CycleBuffer.takeFrame (b : CycleBuffer) (bits : List Bool) (index : Fin 8) : CycleBuffer :=
  { b with sums := perStation (fun i => (b.sums[i]).add (slotCounts bits i))
           temps := b.temps.set index (some (readTemp (bitsByte bits (8 * 43)))) }

/-- Bytes 2 to 43 into the running CRC, the check field noted, the position counted (R86, R93). A position counts once it is complete,
so that READ_LINK shows 0 while the first one arrives (R105, log entry 34). -/
def CycleBuffer.takePosition (b : CycleBuffer) (bits : List Bool) : CycleBuffer :=
  { b with positions := b.positions + 1, crc := crcExtend b.crc (bitsBytes bits 2 42)
           carried := BitVec.ofNat 16 (beNumber (bitsBytes bits 44 2)) }

/-- What a complete position gives a collecting buffer (R93). -/
def CycleBuffer.complete (b : CycleBuffer) (bits : List Bool) (index : Fin 8) (good : Bool) : CycleBuffer :=
  (if good then b.takeFrame bits index else b).takePosition bits

/-- The judged position's 368 bits have arrived: its contents are taken and the next position's bits follow (R93). -/
def Tally.completePosition (t : Tally) : Tally :=
  match t.aligner with
  | .sync expected (some good) =>
    if t.stream.length < Config.frameBits then t
    else
      { t with aligner := .sync expected none
               buffer := t.buffer.map (fun b => b.complete t.stream (expected - 1) good)
               stream := t.stream.drop Config.frameBits }
  | .off | .hunt | .candidate _ | .confirm _ | .sync _ none => t

/-! ## Commits (R95, R98, R99, R110) -/

/-- A committed cycle goes to the metering unit's pending store, where it has a place (R99, R110). -/
def State.handOn (s : State) (c : CommittedCycle) : State :=
  if s.meter.cycles.length < Config.pendingCycleSlots then s.withMeter { s.meter with cycles := s.meter.cycles ++ [c] } else s

/-- The receiver's own part of an actual commit (R95 steps 1, 2 and 4). -/
def Tally.afterActual (t : Tally) (counts : Vector Drops 8) : Tally :=
  { t with lastGood := counts, estimateRun := 0 }.restartCycleTimer

/-- An actual commit, from the link or from TALLY (R95, R104). -/
def State.commitActual (s : State) (c : CommittedCycle) : State :=
  let s1 := s.handOn c
  (s1.withTally (s1.tally.afterActual c.counts)).endCondition .meterGap

/-- The receiver's own part of an estimated commit (R98). -/
def Tally.afterEstimate (t : Tally) : Tally :=
  { t with estimateRun := t.estimateRun + 1, estimatedTotal := satAdd Config.maxNl t.estimatedTotal 1 }.restartCycleTimer

/-- An estimated commit attempted: made below the hold limit, METER_GAP at it (R98). -/
def State.attemptEstimate (s : State) : State :=
  if s.tally.estimateRun < s.tally.config.holdLimit then
    let s1 := s.handOn ⟨s.tally.lastGood, none⟩
    s1.withTally s1.tally.afterEstimate
  else s.raiseCondition .meterGap s.tally.estimateRun

/-- The cycle that a buffer commits: a sound cycle has every temperature (R95). -/
def CycleBuffer.cycle (b : CycleBuffer) : CommittedCycle :=
  ⟨b.sums, some (b.temps.map (fun x => x.getD .sensorFault))⟩

/-- The cycle check's count (R94). -/
def State.noteCheck (s : State) (good : Bool) : State :=
  if good then s.withTally { s.tally with checkRun := 0 }
  else (s.withTally { s.tally with checkRun := s.tally.checkRun + 1 }).countCheckError

/-- The decision on a cycle (R94). -/
def State.decideCycle (s : State) (b : CycleBuffer) (good : Bool) : State :=
  if good && !b.failed then s.commitActual b.cycle else s.attemptEstimate

/-- After the decision: loss of alignment on a failed check run of 4, otherwise the next cycle (R93, R94). -/
def State.afterCycle (s : State) : State :=
  if 4 ≤ s.tally.checkRun then
    (s.withTally (s.tally.discardCycle.hunt s.tally.stream)).raiseCondition .linkLost 2
  else s.withTally { s.tally with buffer := some CycleBuffer.cleared }

/-- A cycle ends: the check, the decision, and what follows it (R94). -/
def State.endCycle (s : State) : State :=
  match s.tally.buffer with
  | none => s
  | some b =>
    if b.positions = 8 then
      let good := b.crc == b.carried
      ((s.noteCheck good).decideCycle b good).afterCycle
    else s

/-- The cycle timer expires: a restart in SYNC, an estimate attempted outside it (R97). -/
def State.cycleTimerExpires (s : State) : State :=
  match s.tally.cycleTimer, s.tally.aligner with
  | none, _ | some _, .off => s
  | some _, .sync _ _ => s.withTally s.tally.restartCycleTimer
  | some _, .hunt | some _, .candidate _ | some _, .confirm _ =>
    let s1 := s.attemptEstimate
    s1.withTally s1.tally.restartCycleTimer

/-- An edge on TLC while the source is LINK: the silence timer restarts, LINK_SILENT ends, and a rising edge samples TLD (R84, R92). -/
def State.takeEdge (s : State) (rising tld : Bool) : State :=
  match s.tally.source with
  | .link =>
    let t := { s.tally with silenceTimer := true }
    (s.withTally (if rising then t.takeBit tld else t)).endCondition .linkSilent
  | .host => s

/-! ## Configuration (R100 to R103) -/

/-- LINK to HOST (R102). -/
def Tally.toHost (t : Tally) : Tally :=
  { t with source := .host, aligner := .off, buffer := none, cycleTimer := none, silenceTimer := false, stream := [] }

/-- HOST to LINK (R103). -/
def Tally.toLink (t : Tally) : Tally :=
  { t with source := .link, aligner := .hunt, buffer := none, badRun := 0, checkRun := 0, silenceTimer := true,
           stream := [] }.restartCycleTimer

/-- A restart of alignment (R101 step 2). -/
def Tally.restartAlignment (t : Tally) : Tally :=
  { t with aligner := .hunt, buffer := none, badRun := 0, checkRun := 0, stream := [] }.restartCycleTimer

/-- A change of source, or the restart of alignment that a changed period or threshold brings (R101 steps 1 and 2). `old` is the
configuration held before. -/
def State.applySource (s : State) (source : TallySource) (old : LinkConfig) : State :=
  match s.tally.source, source with
  | .link, .host => ((s.withTally s.tally.toHost).endCondition .linkLost).endCondition .linkSilent
  | .host, .link => s.withTally s.tally.toLink
  | .host, .host => s
  | .link, .link =>
    if s.tally.config.nominalPeriod = old.nominalPeriod ∧ s.tally.config.lossThreshold = old.lossThreshold then s
    else s.withTally s.tally.restartAlignment

/-- A counter held to a narrower width's maximum (R100). One that stands at exactly 255 is not above it: it stays, and no LINK_ERRORS is
raised for it (log entry 30). -/
def State.narrowMarkerErrors (s : State) : State :=
  if 255 < s.tally.markerErrors then (s.withTally { s.tally with markerErrors := 255 }).raiseCondition .linkErrors 1 else s

/-- The same for CHECK_ERRORS. -/
def State.narrowCheckErrors (s : State) : State :=
  if 255 < s.tally.checkErrors then (s.withTally { s.tally with checkErrors := 255 }).raiseCondition .linkErrors 2 else s

/-- A counter width changed from 10 to 8 (R100). -/
def State.applyWidth (s : State) (old : LinkConfig) : State :=
  if old.counterWidth = 10 ∧ s.tally.config.counterWidth = 8 then s.narrowMarkerErrors.narrowCheckErrors else s

/-- CONFIG_LINK's effect: the values stored, then source, alignment and counter width in that order (R101). -/
def State.configureLink (s : State) (source : TallySource) (c : LinkConfig) : State :=
  let old := s.tally.config
  ((s.withTally { s.tally with config := c }).applySource source old).applyWidth old

/-- READ_LINK's clear option (R105). -/
def State.clearLinkCounters (s : State) : State :=
  (s.withTally { s.tally with markerErrors := 0, checkErrors := 0 }).endCondition .linkErrors

end Sys2Proof.Machine
end

