-- ==== Sys2Proof/Machine/LinkOps.lean ====
section
/-! DEFINITION. The request engine's shared operations: receiving frames, judging requests, forming replies (chapter 10); halting and
start-up (chapter 11). -/

namespace Sys2Proof.Machine

/-! ## The receiver (R174 to R176) -/

/-- A LEN byte in its range (R174). -/
def lenInRange (len : Byte) : Bool := 2 ≤ len.toNat && len.toNat ≤ 242

/-- Whether the bytes after the sync byte make a complete frame: a LEN out of range ends it, and otherwise LEN + 2 bytes follow LEN
(R174). -/
def frameComplete : List Byte → Bool
  | [] => false
  | len :: rest => !lenInRange len || rest.length == len.toNat + 2

/-- The frame that complete bytes make: well-formed where LEN is in range and the check agrees (R174). -/
def readFrame : List Byte → RxFrame
  | [] => .badFrame
  | len :: rest =>
    let counted := rest.take len.toNat
    if lenInRange len && crc16 (len :: counted) == BitVec.ofNat 16 (leField rest len.toNat 2) then
      .wellFormed (byteAt counted 0) (byteAt counted 1) (counted.drop 2)
    else .badFrame

/-- A complete frame takes a slot, or, where both are held, is discarded with the overrun flag set (R176). A frame that a LEN out of range
ends is complete too, as R174 has it, and sets the flag then, against the second paragraph of R176 (log entry 36). -/
def HostLink.acceptFrame (h : HostLink) (f : RxFrame) : HostLink :=
  if h.slots.length < Config.rxSlots then { h with slots := h.slots ++ [⟨f, false⟩] } else { h with overrun := true }

/-- A complete frame in the receiver, whether a LEN out of range or its last byte completes it, takes its place and the receiver hunts again;
otherwise nothing happens (R174, R176, log entry 36). -/
def HostLink.settle (h : HostLink) : HostLink :=
  match h.receiver with
  | .assembling bytes => if frameComplete bytes then { h with receiver := .hunting }.acceptFrame (readFrame bytes) else h
  | .hunting => h

/-- A byte met by a receiver that holds no complete frame (R174). -/
def HostLink.meetByte (h : HostLink) (b : Byte) : HostLink :=
  match h.receiver with
  | .hunting => if b = 0xA5 then { h with receiver := .assembling [] } else h
  | .assembling bytes => { h with receiver := .assembling (bytes ++ [b]) }

/-- A byte arrives; a frame that was complete is settled first (R174). -/
def HostLink.receiveByte (h : HostLink) (b : Byte) : HostLink := h.settle.meetByte b

/-- The gap timer runs exactly while the receiver assembles a frame that is not complete; its expiry discards the partial frame (R175). -/
def HostLink.gapExpires (h : HostLink) : HostLink :=
  match h.receiver with
  | .assembling bytes => if frameComplete bytes then h else { h with receiver := .hunting }
  | .hunting => h

/-- A line error: the byte and a partial frame are discarded (R175). -/
def HostLink.lineError (h : HostLink) : HostLink := h.settle.gapExpires

/-! ## Judging and answering (R177 to R180) -/

/-- What the judging of a frame decides: an answer of the request engine itself, or a request for its owner (R177). -/
inductive Judged where
  | answered (kind tag : Byte) (status : Status)
  | handed (request : Request)
  deriving DecidableEq, Repr

/-- A KIND byte with bit 7 set (R178). -/
def replyKind (kind : Byte) : Byte := kind ||| 0x80

/-- Judge a frame by the six steps of R177. -/
def judge (halted : Bool) : RxFrame → Judged
  | .badFrame => .answered 0x80 0 .badFrame
  | .wellFormed kind tag body =>
    match requestOfCode kind.toNat with
    | none => .answered (replyKind kind) tag .unknownKind
    | some r =>
      if !bodyLengthOk r body.length then .answered (replyKind kind) tag .badLength
      else if namesStation r && 7 < (byteAt body 0).toNat then .answered (replyKind kind) tag .badStation
      else if halted && !servedInHalted r then .answered (replyKind kind) tag .halted
      else .handed ⟨r, tag, body⟩

/-- The part is HALTED. -/
def State.isHalted (s : State) : Bool := s.operating == .halted

/-- The reply as it stands when it is formed; `lost` is the events-lost bit (R178, R179). -/
def State.replyNow (s : State) (kind tag : Byte) (status : Status) (lost : Bool) (body : List Byte) : Reply :=
  { kind, tag, status, flags := flagsByte s.attentionPending s.link.overrun s.isHalted lost, body }

/-- A reply is formed: it joins the replies to be sent, the overrun flag is cleared as it is reported, and the engine is ready for the
next frame (R176 to R178). -/
def State.formReply (s : State) (kind tag : Byte) (status : Status) (lost : Bool) (body : List Byte) : State :=
  s.withLink { s.link with overrun := false, replies := s.link.replies ++ [s.replyNow kind tag status lost body],
                           engine := .ready }

/-- A request's KIND code as a byte. -/
def Request.code (r : Request) : Byte := BitVec.ofNat 8 (requestCode r.kind)

/-- Answer a request with a status and a body (R178). -/
def State.answer (s : State) (r : Request) (status : Status) (body : List Byte) : State :=
  s.formReply (replyKind r.code) r.tag status false body

/-- The first frame in the buffer that has not been taken, and the slots with it marked as taken (R177). -/
def takeSlot : List RxSlot → Option (RxFrame × List RxSlot)
  | [] => none
  | x :: rest =>
    if x.taken then
      match takeSlot rest with
      | some (f, rest') => some (f, x :: rest')
      | none => none
    else some (x.frame, { x with taken := true } :: rest)

/-- The request engine takes the next frame and judges it (R177). -/
def State.takeRequest (s : State) : State :=
  match s.link.engine, takeSlot s.link.slots with
  | .ready, some (f, slots) =>
    let s1 := s.withLink { s.link with slots }
    match judge s.isHalted f with
    | .answered kind tag status => s1.formReply kind tag status false []
    | .handed r => s1.withLink { s1.link with engine := .handed r }
  | _, _ => s

/-- The owner of a kind takes the request that the engine has handed to it (R177 step 6); where the engine has handed no request of that
kind, nothing happens. -/
def State.serve (s : State) (kind : RequestKind) (f : State → Request → State) : State :=
  if s.running then
    match s.link.engine with
    | .handed r => if r.kind = kind then f s r else s
    | .ready | .awaiting _ | .stopped => s
  else s

/-- The engine waits for the retained-store write on which the answer is formed (R177). -/
def State.await (s : State) (r : Request) : State := s.withLink { s.link with engine := .awaiting r }

/-- Answer a request that ends with an empty body; after RESTART's answer the engine takes no further frame (R191 step 3). -/
def State.answerDone (s : State) (r : Request) : State :=
  let s1 := s.answer r .ok []
  if r.kind = .restart then s1.withLink { s1.link with engine := .stopped } else s1

/-! ## Halting (R189, R191) -/

/-- A station's timers stop (R189 step 1). -/
def StationRec.stopTimers (r : StationRec) : StationRec :=
  { r with seatTimer := false, removalTimer := false, ink := { r.ink with settle := false } }

/-- The bus engine at SHUTDOWN: a job with a byte on the bus is to be cut, every other job has ended ABORTED and left no entry, the result
table is cleared (R61, R189). One point is the model's choice (log entry 16): an ACTIVE write job between its phases or its status polls,
which has no byte on the bus, ends at once, as R60 has it for an abort, while R61 names only an ACTIVE job's next byte boundary. -/
def Bus.shutdown (b : Bus) : Bus :=
  { b with jobs := (b.jobs.filter b.onBus).map (Job.marked .shutdown), results := [] }

/-- The tally receiver at SHUTDOWN (R106). -/
def Tally.shutdown (t : Tally) : Tally := { t.discardCycle with cycleTimer := none, silenceTimer := false }

/-- The digest unit at SHUTDOWN; the contexts stay (R71). -/
def Auth.shutdown (a : Auth) : Auth := { a with fifo := [], computing := none }

/-- Enter HALTED and stop (R189 step 1). -/
def State.stop (s : State) : State :=
  ((((s.withOperating .halted).withTally s.tally.shutdown).withAuth s.auth.shutdown).withBus s.bus.shutdown).withStations
    (s.stations.map StationRec.stopTimers)

/-- A station whose checkpoint SHUTDOWN and RESTART write, with what is written (R189 step 2). -/
def State.haltCheckpoint (s : State) (i : Station) : Option StoreItem :=
  match (s.station i).lifecycle with
  | .active | .quarantined | .departing => (s.checkpointOf i).map (fun c => .checkpoint i (some c))
  | .vacant | .seated | .identifying | .authenticating | .released => none

/-- Writes with the last of them as the one that answers. -/
def lastAnswers : List StoreWrite → List StoreWrite
  | [] => []
  | [w] => [{ w with answers := true }]
  | w :: x :: rest => w :: lastAnswers (x :: rest)

/-- The checkpoints of a halt, as writes in station order (R189 step 2). -/
def State.haltWrites (s : State) : List StoreWrite := (stationList.filterMap s.haltCheckpoint).map (fun x => ⟨x, false⟩)

/-- A request answered when the last of some writes has completed, behind writes that it does not wait for; with none it is answered at
once. -/
def State.answerAfter (s : State) (r : Request) (before awaited : List StoreWrite) : State :=
  match awaited with
  | [] => s.answerDone r
  | _ :: _ => (s.withWrites (before ++ lastAnswers awaited)).await r

/-- SHUTDOWN's checkpoints, and its answer after the last of those writes (R189 steps 2 and 3). Where it has none to write, it does not wait
for the writes requested before it (log entry 39). -/
def State.checkpointForShutdown (s : State) (r : Request) : State := s.answerAfter r s.writes s.haltWrites

/-- RESTART's checkpoints, and its answer after the last write of all: it answers only when every account is safe in the store, so the
writes requested before it must have completed too, such as the table of a cartridge that has just departed (R191 steps 2 and 3). -/
def State.checkpointForRestart (s : State) (r : Request) : State := s.answerAfter r [] (s.writes ++ s.haltWrites)

/-! ## Start-up (R187, R188) -/

/-- Every block at its start-up value; what the store keeps, the pins, the draw counter and the waiting commands stay (R187 step 1). -/
def State.volatileReset (s : State) : State :=
  { powered := s.powered, resetN := s.resetN, presence := s.presence, inkInputs := s.inkInputs, operating := .operating,
    link := HostLink.initial, stations := Vector.replicate 8 StationRec.initial, bus := Bus.initial, auth := Auth.initial,
    tally := Tally.initial, meter := MeterUnit.initial, part := PartConfig.initial, departed := DepartedTable.initial,
    events := EventQueue.initial, standing := Vector.replicate 30 none, store := s.store, writes := [], draws := s.draws,
    pending := s.pending }

/-- A held checkpoint folded into the departed table and its slot cleared, the table first (R188). -/
def State.foldCheckpoint (s : State) (i : Station) : State :=
  match s.store.checkpoints[i] with
  | some c => (s.insertDeparted (c.entry i)).clearCheckpoint i
  | none => s

/-- A presence input sampled: SEATED with the seat timer where it is asserted (R187 step 5). -/
def State.samplePresence (s : State) (i : Station) : State :=
  if s.presence[i] then s.modStation i (StationRec.seat s.inkInputs[i]) else s

/-- The retained store is read: the departed table as it is kept (R187 step 2). -/
def State.readStore (s : State) : State := s.withDeparted s.store.departed

/-- A start-up: volatile state, read, fold, wake, presence, service (R187). -/
def State.startUp (s : State) : State :=
  ((s.volatileReset.readStore.forStations State.foldCheckpoint).requestWake).forStations State.samplePresence

/-- The start-up at the end of RESTART, in which no write is interrupted: writes still waiting complete before the store is read (R186,
R191). -/
def State.restartStartUp (s : State) : State := ((s.withStore (s.store.applyAll s.writes)).withWrites []).startUp

/-- The part without power or with RESET_N low: nothing runs, the write in progress is interrupted, volatile state is given up (R186,
R187). -/
def State.goDown (s : State) (landed : Bool) : State := (s.interruptStore landed).volatileReset

/-- The last byte of the oldest reply has been sent: its slot is freed; after RESTART's reply has gone out, a start-up begins (R176,
R191). -/
def State.replySent (s : State) : State :=
  match s.link.replies with
  | [] => s
  | _ :: rest =>
    let s1 := s.withLink { s.link with replies := rest, slots := s.link.slots.eraseP (·.taken) }
    match s1.link.engine, rest with
    | .stopped, [] => s1.restartStartUp
    | _, _ => s1

/-! ## The retained store's completions (R74, R186) -/

/-- A revocation applied: the ACTIVE stations that hold a key index naming the slot are quarantined in station order (R74). -/
def State.revokeAt (slot : KeySlot) (s : State) (i : Station) : State :=
  if (s.station i).lifecycle = .active
      ∧ ((s.station i).cartridge.bind (·.identity)).map (·.keyIndex) = some slot.val then s.enterQuarantined i .keyRevoked
  else s

/-- What the completion of a write brings about in the other blocks (R74). -/
def State.applyWritten (s : State) : StoreItem → State
  | .keyRevoked slot => s.forStations (State.revokeAt slot)
  | .departed _ | .checkpoint _ _ => s

/-- The reply that waits on a completed write is formed (R177). -/
def State.answerWaiting (s : State) (answers : Bool) : State :=
  match answers, s.link.engine with
  | true, .awaiting r => s.answerDone r
  | _, _ => s

/-- The write in progress completes and the next one begins (R186). -/
def State.completeWrite (s : State) : State :=
  match s.writes with
  | [] => s
  | w :: rest =>
    (((s.withStore (s.store.apply w.item)).withWrites rest).applyWritten w.item).answerWaiting w.answers

end Sys2Proof.Machine
end

