-- ==== Sys2Proof/Machine/HostLinkRows.lean ====
section
/-! DEFINITION. The meanings of the host link's line, buffer and reply commands (sections 10.1 to 10.5). They act while the part runs, in
either operating state (R173). -/

namespace Sys2Proof.Machine

/-- Change the request engine's state while the part runs. -/
def State.onLink (s : State) (f : HostLink → HostLink) : State := s.whenRunning (fun s => s.withLink (f s.link))

/-- HL_BYTE_RECEIVED (R174). -/
def execHlByteReceived (byte : Byte) (s : State) : Host.Outcome State Fault Refusal := .next (s.onLink (fun h => h.receiveByte byte))

/-- HL_FRAME_COMPLETE (R174, R176). -/
def execHlFrameComplete (s : State) : Host.Outcome State Fault Refusal := .next (s.onLink HostLink.settle)

/-- GAP_TIMER_EXPIRY (R175). -/
def execGapTimerExpiry (s : State) : Host.Outcome State Fault Refusal := .next (s.onLink HostLink.gapExpires)

/-- LINE_ERROR (R175). -/
def execLineError (s : State) : Host.Outcome State Fault Refusal := .next (s.onLink HostLink.lineError)

/-- TAKE_REQUEST (R177). -/
def execTakeRequest (s : State) : Host.Outcome State Fault Refusal := .next (s.whenRunning State.takeRequest)

/-- REPLY_SENT (R176, R191). -/
def execReplySent (s : State) : Host.Outcome State Fault Refusal := .next (s.whenRunning State.replySent)

end Sys2Proof.Machine
end

