-- ==== Sys2Proof/Machine/MeterOps.lean ====
section
/-! DEFINITION. The metering unit's computation of a committed cycle, stages 0 to 5 (R110 to R118). -/

namespace Sys2Proof.Machine

/-- Change a station's metering fields. -/
def State.modMeter (s : State) (i : Station) (f : Metering → Metering) : State :=
  s.modStation i (fun r => { r with meter := f r.meter })

/-! ## Stage 0 (R111) -/

/-- Lifetime drops, saturating. -/
def Drops.addLifetime (a b : Drops) : Drops :=
  ⟨satAdd Config.maxLifetime a.small b.small, satAdd Config.maxLifetime a.medium b.medium,
   satAdd Config.maxLifetime a.large b.large, satAdd Config.maxLifetime a.service b.service⟩

/-- Stage 0: the four counts join the lifetime drops. -/
def Metering.countDrops (n : Drops) (m : Metering) : Metering := { m with lifetime := m.lifetime.addLifetime n }

/-! ## Stage 1 (R112 to R114) -/

/-- The upper threshold of band b, which is the lower threshold of band b + 1 (R109). -/
def PartConfig.threshold (p : PartConfig) : Nat → Nat
  | 0 => p.t1
  | 1 => p.t2
  | 2 => p.t3
  | _ => p.t4

/-- One step of the rising rule (R113). -/
def PartConfig.riseOnce (p : PartConfig) (t : Nat) (b : Fin 5) : Fin 5 :=
  if b.val < 4 ∧ p.threshold b.val ≤ t then b + 1 else b

/-- One step of the falling rule: below the lower threshold less 2 (R113). -/
def PartConfig.fallOnce (p : PartConfig) (t : Nat) (b : Fin 5) : Fin 5 :=
  if 0 < b.val ∧ t + 2 < p.threshold (b.val - 1) then b - 1 else b

/-- The rising rule while it moves the band, at most four times (R113). -/
def PartConfig.rise (p : PartConfig) (t : Nat) (b : Fin 5) : Fin 5 :=
  p.riseOnce t (p.riseOnce t (p.riseOnce t (p.riseOnce t b)))

/-- The falling rule while it moves the band, at most four times (R113). -/
def PartConfig.fall (p : PartConfig) (t : Nat) (b : Fin 5) : Fin 5 :=
  p.fallOnce t (p.fallOnce t (p.fallOnce t (p.fallOnce t b)))

/-- The band after a temperature: rising, then falling (R113). -/
def PartConfig.bandAfter (p : PartConfig) (t : Nat) (b : Fin 5) : Fin 5 := p.fall t (p.rise t b)

/-- Stage 1 on a temperature in degrees, in the metering fields (R112, R113). -/
def Metering.takeTemp (p : PartConfig) (t : Nat) (m : Metering) : Metering :=
  { m with tempFault := false, lastTemp := some t, band := p.bandAfter t m.band
           bandChanged := m.bandChanged || decide (p.bandAfter t m.band ≠ m.band) }

/-- Stage 1 on a temperature: TEMP_FAULT ends, the band moves, TEMP_BAND on a change (R112, R113). A cycle committed before the halt is
computed in HALTED, and its temperature ends TEMP_FAULT there too, where R190 has standing conditions stay (log entry 37). -/
def State.takeTemp (s : State) (i : Station) (t : Nat) : State :=
  let before := (s.station i).meter.band
  let s1 := (s.modMeter i (Metering.takeTemp s.part t)).endCondition (.tempFault i)
  let after := s.part.bandAfter t before
  if after = before then s1 else s1.raise .tempBand (some i) after.val

/-- Stage 1 on a sensor fault: the flag, and TEMP_FAULT with the band held (R112). -/
def State.takeSensorFault (s : State) (i : Station) : State :=
  (s.modMeter i (fun m => { m with tempFault := true })).raiseCondition (.tempFault i) (s.station i).meter.band.val

/-- Stage 1: on an ACTUAL cycle's reading only (R112, R114). -/
def State.temperatureStage (s : State) (i : Station) : Option TempReading → State
  | none => s
  | some .sensorFault => s.takeSensorFault i
  | some (.degrees t) => s.takeTemp i t

/-! ## Stages 2 and 3 (R115, R116) -/

/-- The sum of a cycle's four counts. -/
def Drops.total (n : Drops) : Nat := n.small + n.medium + n.large + n.service

/-- The raw volume in vu: 0 while the table is invalid (R115). -/
def VolumeTable.raw (v : VolumeTable) (n : Drops) : Nat :=
  if v.valid then
    n.small * v.volumes.small + n.medium * v.volumes.medium + n.large * v.volumes.large + n.service * v.volumes.service
  else 0

/-- The scaled volume: rounded to the nearest vu, an exact half up (R116). -/
def scaleVolume (raw factor : Nat) : Nat := (raw * factor + 128) / 256

/-- The scaled volume of counts at a station in its band (R115, R116). -/
def StationRec.scaled (r : StationRec) (n : Drops) : Nat := scaleVolume (r.volumes.raw n) r.volumes.factors[r.meter.band]

/-- Drops against an invalid table raise UNCALIBRATED with their sum (R115). -/
def State.testCalibration (s : State) (i : Station) (n : Drops) : State :=
  if (s.station i).volumes.valid || n.total = 0 then s else s.raiseCondition (.uncalibrated i) n.total

/-! ## Stages 4 and 5 (R117, R118) -/

/-- Stage 4's flag and event: a scaled volume above the cycle ceiling (R117). -/
def State.clampStage (s : State) (i : Station) (scaled : Nat) : State :=
  if (s.station i).config.cycleCeiling < scaled then
    (s.modMeter i (fun m => { m with clamped := true })).raise .meterClamped (some i) scaled
  else s

/-- The whole nanolitres that a volume yields with the fraction held (R118). -/
def Metering.whole (m : Metering) (volume : Nat) : Nat := (m.fraction + volume) / Config.vuPerNl

/-- Stage 5: the fraction kept, the converted total grown (R118). -/
def Metering.accumulate (volume : Nat) (m : Metering) : Metering :=
  { m with fraction := (m.fraction + volume) % Config.vuPerNl
           converted := satAdd Config.maxNl m.converted (m.whole volume) }

/-- Stage 5 at a station: the accumulator, and W of 1 or more on its way to the station controller (R110, R118). -/
def State.convertStage (s : State) (i : Station) (volume : Nat) : State :=
  let w := (s.station i).meter.whole volume
  let s1 := s.modMeter i (Metering.accumulate volume)
  if w = 0 then s1 else s1.withMeter { s1.meter with deliveries := s1.meter.deliveries ++ [⟨i, w⟩] }

/-- Stages 2 to 5 at a station (R115 to R118). -/
def State.volumeStages (s : State) (i : Station) (n : Drops) : State :=
  let scaled := (s.station i).scaled n
  ((s.testCalibration i n).clampStage i scaled).convertStage i (min scaled (s.station i).config.cycleCeiling)

/-- One station's computation for a cycle: stages 0 to 5 (R110). -/
def State.computeStation (c : CommittedCycle) (s : State) (i : Station) : State :=
  ((s.modMeter i (Metering.countDrops c.counts[i])).temperatureStage i (c.temps.map (fun t => t[i]))).volumeStages i c.counts[i]

/-- The oldest pending cycle computed for all eight stations, and out of the store (R110). -/
def State.computeCycle (s : State) : State :=
  match s.meter.cycles with
  | [] => s
  | c :: rest =>
    let s1 := s.forStations (State.computeStation c)
    s1.withMeter { s1.meter with cycles := rest }

/-- The oldest delivery of a station in a list, and the list without it. -/
def oldestDelivery (i : Station) : List Delivery → Option (Nat × List Delivery)
  | [] => none
  | d :: rest =>
    if d.station = i then some (d.nl, rest)
    else
      match oldestDelivery i rest with
      | some (w, others) => some (w, d :: others)
      | none => none

/-- The station controller takes a station's oldest delivery and routes it (R119). -/
def State.takeDelivery (s : State) (i : Station) : State :=
  match oldestDelivery i s.meter.deliveries with
  | some (w, rest) => (s.withMeter { s.meter with deliveries := rest }).routeDelivery i w
  | none => s

end Sys2Proof.Machine
end

