-- ==== Sys2Proof/Machine/MeterRows.lean ====
section
/-! DEFINITION. The meaning of the metering unit's command (R110). The unit finishes pending cycles in HALTED too (R125). -/

namespace Sys2Proof.Machine

/-- CYCLE_COMPUTATION (R110). -/
def execCycleComputation (s : State) : Host.Outcome State Fault Refusal := .next (s.whenRunning State.computeCycle)

end Sys2Proof.Machine
end

