-- ==== Sys2Proof/Machine/PartRequests.lean ====
section
/-! DEFINITION. The meanings of the requests that name no station: part-wide settings, key slots, the tally link, the departed table, the
event queue, and the halt (R73, R101, R104, R105, R159, R160, R168, R169, R181 to R183, R189, R191). -/

namespace Sys2Proof.Machine

/-- IDENTIFY's owner (R181). -/
def State.ownIdentify (s : State) (r : Request) : State := s.answer r .ok (identifyBody s.store)

/-- IDENTIFY (R181). -/
def execIdentify (s : State) : Host.Outcome State Fault Refusal := .next (s.serve .identify State.ownIdentify)

/-- GET_STATUS's owner (R182). -/
def State.ownGetStatus (s : State) (r : Request) : State := s.answer r .ok (statusBody s)

/-- GET_STATUS (R182). -/
def execGetStatus (s : State) : Host.Outcome State Fault Refusal := .next (s.serve .getStatus State.ownGetStatus)

/-- The settings stored; changed permilles recompute every band in station order (R130, R183, R184). -/
def State.storePart (s : State) (p : PartConfig) : State :=
  let s1 := s.withPart p
  if s.part.lowPermille = p.lowPermille ∧ s.part.criticalPermille = p.criticalPermille then s1
  else s1.forStations State.computeBand

/-- CONFIG_PART's owner (R183). -/
def State.ownConfigPart (s : State) (r : Request) : State :=
  (s.storePart (readPartConfig r.body)).answer r .ok (partConfigBody (readPartConfig r.body))

/-- CONFIG_PART (R183). -/
def execConfigPart (s : State) : Host.Outcome State Fault Refusal := .next (s.serve .configPart State.ownConfigPart)

/-- REVOKE_KEY's owner: a LIVE slot's new state goes to the store, and the answer waits for it (R73). -/
def State.ownRevokeKey (s : State) (r : Request) : State :=
  let slot := (byteAt r.body 0).toNat
  match s.keyState slot with
  | none | some .empty => s.answer r .refused []
  | some .revoked => s.answer r .ok []
  | some .live => (s.requestWrite (.keyRevoked (Fin.ofNat 4 slot)) true).await r

/-- REVOKE_KEY (R73). -/
def execRevokeKey (s : State) : Host.Outcome State Fault Refusal := .next (s.serve .revokeKey State.ownRevokeKey)

/-- CONFIG_LINK's owner (R101). The reply is formed after the values have taken effect, so that its attention-pending bit shows a LINK_ERRORS
that a narrower counter width raises: R100 and R101 give no order (log entry 18). -/
def State.ownConfigLink (s : State) (r : Request) : State :=
  (s.configureLink (readSource r.body) (readLinkConfig r.body)).answer r .ok
    (linkConfigBody (readSource r.body) (readLinkConfig r.body))

/-- CONFIG_LINK (R101). -/
def execConfigLink (s : State) : Host.Outcome State Fault Refusal := .next (s.serve .configLink State.ownConfigLink)

/-- READ_LINK's owner: the reply takes its contents before the clear option acts (R105). -/
def State.ownReadLink (s : State) (r : Request) : State :=
  (if readClearOption r.body then s.clearLinkCounters else s).answer r .ok (readLinkBody s)

/-- READ_LINK (R105). -/
def execReadLink (s : State) : Host.Outcome State Fault Refusal := .next (s.serve .readLink State.ownReadLink)

/-- TALLY's owner (R104). -/
def State.ownTally (s : State) (r : Request) : State :=
  match s.tally.source with
  | .link => s.answer r .wrongState []
  | .host => (s.commitActual (readTally r.body)).answer r .ok []

/-- TALLY (R104). -/
def execTally (s : State) : Host.Outcome State Fault Refusal := .next (s.serve .tally State.ownTally)

/-- LIST_DEPARTED's owner (R159). -/
def State.ownListDeparted (s : State) (r : Request) : State :=
  s.answer r .ok (departedBody s.departed (byteAt r.body 0).toNat)

/-- LIST_DEPARTED (R159). -/
def execListDeparted (s : State) : Host.Outcome State Fault Refusal := .next (s.serve .listDeparted State.ownListDeparted)

/-- A changed table, written to the store; the answer waits for the write (R149, R160). -/
def State.forgetTo (s : State) (r : Request) (t : DepartedTable) : State :=
  ((s.withDeparted t).requestWrite (.departed t) true).await r

/-- FORGET's owner (R160). -/
def State.ownForget (s : State) (r : Request) : State :=
  if readForgetAll r.body then s.forgetTo r { s.departed with entries := [] }
  else
    match s.departed.lookup (readForgetSerial r.body) with
    | some _ => s.forgetTo r (s.departed.remove (readForgetSerial r.body))
    | none => s.answer r .notFound []

/-- FORGET (R160). -/
def execForget (s : State) : Host.Outcome State Fault Refusal := .next (s.serve .forget State.ownForget)

/-- The queue after a fetch of n entries (R169). -/
def EventQueue.fetched (q : EventQueue) (n : Nat) : EventQueue := { q with entries := remainingEvents n q.entries }

/-- GET_EVENTS' owner: the entries leave the queue, the reply reports the queue after that and the events-lost flag, which is cleared
(R169, R170). -/
def State.ownGetEvents (s : State) (r : Request) : State :=
  let n := fetchCount (byteAt r.body 0).toNat
  let s1 := s.withEvents (s.events.fetched n)
  (s1.formReply (replyKind r.code) r.tag .ok s.events.lost
    (eventsBody s1.events.entries.length (selectEvents n s.events.entries))).withEvents { s1.events with lost := false }

/-- GET_EVENTS (R169). -/
def execGetEvents (s : State) : Host.Outcome State Fault Refusal := .next (s.serve .getEvents State.ownGetEvents)

/-- SET_MASK's owner (R168). -/
def State.ownSetMask (s : State) (r : Request) : State :=
  (s.withEvents { s.events with mask := readMask r.body }).answer r .ok (leBytes 4 (readMask r.body).toNat)

/-- SET_MASK (R168). -/
def execSetMask (s : State) : Host.Outcome State Fault Refusal := .next (s.serve .setMask State.ownSetMask)

/-- SHUTDOWN's owner: halt, stop, checkpoint, and the answer after the last checkpoint's write (R189). -/
def State.ownShutdown (s : State) (r : Request) : State := s.stop.checkpointForShutdown r

/-- SHUTDOWN (R189). -/
def execShutdown (s : State) : Host.Outcome State Fault Refusal := .next (s.serve .shutdown State.ownShutdown)

/-- RESTART's owner: halt and stop where the part is OPERATING, then the checkpoints in either state, and the answer after the last
write (R191). -/
def State.ownRestart (s : State) (r : Request) : State :=
  match s.operating with
  | .operating => s.stop.checkpointForRestart r
  | .halted => s.checkpointForRestart r

/-- RESTART (R191). -/
def execRestart (s : State) : Host.Outcome State Fault Refusal := .next (s.serve .restart State.ownRestart)

end Sys2Proof.Machine
end

