-- ==== Sys2Proof/Machine/PowerRows.lean ====
section
/-! DEFINITION. The meanings of the power, reset and retained-store commands (chapter 11). -/

namespace Sys2Proof.Machine

/-- POWER_ON: power is applied; with RESET_N high a start-up begins, with RESET_N low the part waits for its rise (R187). Power that is
already there stays. -/
def execPowerOn (s : State) : Host.Outcome State Fault Refusal :=
  .next (if s.powered then s else if s.resetN then (s.withPowered true).startUp else s.withPowered true)

/-- POWER_LOSS: the write in progress leaves its item old or new, whole; volatile state is gone (R186). -/
def execPowerLoss (landed : Bool) (s : State) : Host.Outcome State Fault Refusal :=
  .next (if s.powered then (s.goDown landed).withPowered false else s)

/-- RESET_N_FALL: the part stops, as at a loss of power but with power there (R186, R187). -/
def execResetNFall (landed : Bool) (s : State) : Host.Outcome State Fault Refusal :=
  .next (if s.resetN then (if s.powered then s.goDown landed else s).withResetN false else s)

/-- RESET_N_RISE: a start-up begins, where the part has power (R187). -/
def execResetNRise (s : State) : Host.Outcome State Fault Refusal :=
  .next (if s.resetN then s else if s.powered then (s.withResetN true).startUp else s.withResetN true)

/-- RETAINED_STORE_WRITE_COMPLETE: the item is replaced whole, a revocation is applied, and a reply that waits on the write is formed
(R74, R186). -/
def execRetainedStoreWriteComplete (s : State) : Host.Outcome State Fault Refusal := .next (s.whenRunning State.completeWrite)

end Sys2Proof.Machine
end

