-- ==== Sys2Proof/Machine/StationRequests.lean ====
section
/-! DEFINITION. The meanings of the requests that name a station, and of the two that name a job (R17 to R19, R25, R26, R57 to R60, R78,
R81, R123, R133). -/

namespace Sys2Proof.Machine

/-! ## GET_STATION (R25) -/

/-- The two band-changed flags cleared once the reply has taken them (R25). -/
def StationRec.clearChanged (r : StationRec) : StationRec :=
  { r with cartridge := r.cartridge.map (fun c => { c with bandChanged := false }), meter := { r.meter with bandChanged := false } }

/-- GET_STATION's owner. -/
def State.ownGetStation (s : State) (r : Request) : State :=
  (s.modStation (bodyStation r.body) StationRec.clearChanged).answer r .ok (stationBody s (bodyStation r.body))

/-- GET_STATION (R25). -/
def execGetStation (s : State) : Host.Outcome State Fault Refusal := .next (s.serve .getStation State.ownGetStation)

/-! ## CONFIG_STATION (R26, R133, R156) -/

/-- A reserve below the debt moves the excess to dry overflow (R133). -/
def StationRec.lowerReserve (reserve : Nat) (r : StationRec) : StationRec :=
  { r with meter := { r.meter with debt := reserve,
                                   dryOverflow := satAdd Config.maxNl r.meter.dryOverflow (r.meter.debt - reserve) } }

/-- The comparison of a new swap reserve with the debt (R133). -/
def State.applyReserve (s : State) (i : Station) (reserve : Nat) : State :=
  let debt := (s.station i).meter.debt
  if reserve < debt then
    let s1 := s.modStation i (StationRec.lowerReserve reserve)
    s1.raiseCondition (.reservoirDry i) (s1.station i).meter.dryOverflow
  else if debt < reserve then s.endCondition (.reservoirDry i) else s

/-- The debouncer under a new ink-sense enable: started at the input's level, stopped, or left alone (R26, R156). -/
def InkSense.enabled (k : InkSense) (old new input : Bool) : InkSense :=
  match old, new with
  | false, true => { candidate := input, settle := true, reading := none, baseline := k.baseline }
  | true, false => InkSense.initial
  | false, false | true, true => k

/-- The five values stored, with the enable acting at once (R26). -/
def StationRec.configured (c : StationConfig) (input : Bool) (r : StationRec) : StationRec :=
  { r with config := c, ink := r.ink.enabled r.config.inkSenseEnable c.inkSenseEnable input }

/-- CONFIG_STATION's owner. -/
def State.ownConfigStation (s : State) (r : Request) : State :=
  let i := bodyStation r.body
  let c := readStationConfig r.body
  ((s.modStation i (StationRec.configured c s.inkInputs[i])).applyReserve i c.swapReserve).answer r .ok
    (oneByte i.val ++ stationConfigBytes c)

/-- CONFIG_STATION (R26). -/
def execConfigStation (s : State) : Host.Outcome State Fault Refusal := .next (s.serve .configStation State.ownConfigStation)

/-! ## RELEASE (R19) -/

/-- A released or departing record: no quarantine cause stays (R4, R19). -/
def StationRec.leave (next : Lifecycle) (r : StationRec) : StationRec :=
  { r with lifecycle := next, cartridge := r.cartridge.map (fun c => { c with cause := none }) }

/-- To DEPARTING, with the final write-back requested (R19, R137). -/
def State.depart (s : State) (i : Station) : State := (s.modStation i (StationRec.leave .departing)).requestWriteBack i .depart

/-- Directly to RELEASED (R19). -/
def State.releaseAtOnce (s : State) (i : Station) : State := s.modStation i (StationRec.leave .released)

/-- Whether a RELEASE goes through a final write-back: a trusted class in ACTIVE, an authenticated cartridge in QUARANTINED (R19). -/
def StationRec.departs (r : StationRec) : Bool :=
  match r.lifecycle with
  | .active => r.cartridge.any (fun c => c.trust.trusted)
  | .quarantined => r.cartridge.any (·.authenticated)
  | .vacant | .seated | .identifying | .authenticating | .departing | .released => false

/-- RELEASE taken in ACTIVE or QUARANTINED; a running recheck is abandoned first (R19). -/
def State.release (s : State) (i : Station) : State :=
  let s1 := s.abandonContext i
  if (s.station i).departs then s1.depart i else s1.releaseAtOnce i

/-- RELEASE's owner. -/
def State.ownRelease (s : State) (r : Request) : State :=
  let i := bodyStation r.body
  match (s.station i).lifecycle with
  | .active | .quarantined => (s.release i).answer r .ok []
  | .vacant | .seated | .identifying | .authenticating | .departing | .released => s.answer r .wrongState []

/-- RELEASE (R19). -/
def execRelease (s : State) : Host.Outcome State Fault Refusal := .next (s.serve .release State.ownRelease)

/-! ## AUTHENTICATE (R18, R78, R81) -/

/-- A new identification of the seated cartridge: in QUARANTINED an authenticated cartridge is entered as departed and its write-backs are
withdrawn first (R18). -/
def State.reidentify (s : State) (i : Station) : State :=
  if (s.station i).lifecycle = .quarantined ∧ (s.station i).cartridge.any (·.authenticated) then
    ((s.enterDeparted i).withdrawWriteBack i).enterIdentifying i
  else s.enterIdentifying i

/-- Whether an ACTIVE station takes a recheck (R78). -/
def State.canRecheck (s : State) (i : Station) : Bool :=
  (s.station i).cartridge.any (fun c => c.trust.trusted) && !s.hasContext i

/-- AUTHENTICATE's owner (R81). A new identification is answered OK before its steps are done (R18). -/
def State.ownAuthenticate (s : State) (r : Request) : State :=
  let i := bodyStation r.body
  match (s.station i).lifecycle with
  | .active => if s.canRecheck i then (s.startContext i true).answer r .ok [] else s.answer r .wrongState []
  | .quarantined | .released => (s.answer r .ok []).reidentify i
  | .vacant | .seated | .identifying | .authenticating | .departing => s.answer r .wrongState []

/-- AUTHENTICATE (R81). -/
def execAuthenticate (s : State) : Host.Outcome State Fault Refusal := .next (s.serve .authenticate State.ownAuthenticate)

/-! ## ADMIT (R17) -/

/-- How a quarantine cause is decided, before the key slot is looked at (R17). -/
inductive Admission where
  | refuse
  | asRefilled
  | asUnverified
  deriving DecidableEq, Repr

/-- The outcome that a cause gives (R17). -/
def State.admissionFor (s : State) (i : Station) (c : CartridgeRecord) : QuarantineCause → Admission
  | .noTag | .malformed | .keyAbsent | .noResponse | .badResponse => .asUnverified
  | .duplicate =>
    match c.identity with
    | some id => if s.heldElsewhere i id.serial then .refuse else .asUnverified
    | none => .asUnverified
  | .refill => .asRefilled
  | .wrongInk | .keyRevoked => .refuse

/-- The record's key index names a slot that is REVOKED now (R17). -/
def State.slotRevoked (s : State) (c : CartridgeRecord) : Bool :=
  c.identity.any (fun id => s.keyState id.keyIndex == some .revoked)

/-- What ADMIT decides for a quarantined record (R17). -/
def State.admission (s : State) (i : Station) (c : CartridgeRecord) : Admission :=
  match c.cause with
  | some cause => if s.slotRevoked c then .refuse else s.admissionFor i c cause
  | none => .refuse

/-- The figures that ADMIT as UNVERIFIED supplies where the used figure is absent: from the tag where its figures are sound, otherwise
the default capacity and 0 (R17, R135). -/
def CartridgeRecord.supplied (defaultCapacity : Nat) (c : CartridgeRecord) : CartridgeRecord :=
  match c.identity with
  | some id => { c with account := some ⟨id.tagUsed, id.tagUsed, id.tagUsed, id.tagFlags⟩ }
  | none => { c with capacity := some defaultCapacity, account := some ⟨0, 0, 0, TagFlags.clear⟩ }

/-- The figures supplied and the level band computed, where a cartridge that is not authenticated has no used figure (R17, R128). -/
def State.supplyFigures (s : State) (i : Station) (c : CartridgeRecord) : State :=
  if c.authenticated || c.account.isSome then s
  else (s.modCartridge i (CartridgeRecord.supplied (s.station i).config.defaultCapacity)).computeBand i

/-- An authenticated cartridge's account is no longer vouched for: its checkpoint is cleared, its write-backs withdrawn (R17). -/
def State.disown (s : State) (i : Station) (c : CartridgeRecord) : State :=
  if c.authenticated then (s.clearCheckpoint i).withdrawWriteBack i else s

/-- Admission as UNVERIFIED (R17). -/
def State.admitUnverified (s : State) (i : Station) (c : CartridgeRecord) : State :=
  (((s.supplyFigures i c).disown i c).modCartridge i
    (fun c => { c with authenticated := false, trust := .unverified })).enterActive i

/-- ADMIT taken for a QUARANTINED station (R17). The OK reply of an accepted ADMIT is formed after the entry to ACTIVE, so that its
attention-pending bit shows ACTIVATED: R17 gives no order (log entry 18). -/
def State.admitQuarantined (s : State) (r : Request) (i : Station) (c : CartridgeRecord) : State :=
  match s.admission i c with
  | .refuse => s.answer r .refused []
  | .asRefilled => (s.enterActive i).answer r .ok []
  | .asUnverified => (s.admitUnverified i c).answer r .ok []

/-- ADMIT's owner. -/
def State.ownAdmit (s : State) (r : Request) : State :=
  let i := bodyStation r.body
  match (s.station i).lifecycle, (s.station i).cartridge with
  | .quarantined, some c => s.admitQuarantined r i c
  | _, _ => s.answer r .wrongState []

/-- ADMIT (R17). -/
def execAdmit (s : State) : Host.Outcome State Fault Refusal := .next (s.serve .admitCartridge State.ownAdmit)

/-! ## Host jobs (R57 to R60) -/

/-- The states in which TAG_READ is taken (R24). -/
def Lifecycle.takesTagRead : Lifecycle → Bool
  | .active | .quarantined | .released => true
  | .vacant | .seated | .identifying | .authenticating | .departing => false

/-- A station at which TAG_WRITE is taken: ACTIVE, with a class other than UNVERIFIED (R24, R58). -/
def StationRec.takesTagWrite (r : StationRec) : Bool :=
  r.lifecycle == .active && !r.cartridge.any (fun c => c.trust == .unverified)

/-- Queue a host job and answer QUEUED with its handle, or QUEUE_FULL with four in existence (R42, R57, R58). -/
def State.queueHostJob (s : State) (r : Request) (j : Job) : State :=
  if 4 ≤ s.bus.hostJobs then s.answer r .queueFull [] else (s.enqueue j).answer r .queued (oneByte s.bus.nextHandle)

/-- TAG_READ's owner (R57). -/
def State.ownTagRead (s : State) (r : Request) : State :=
  let i := bodyStation r.body
  let offset := (byteAt r.body 1).toNat
  let length := (byteAt r.body 2).toNat
  if !(s.station i).lifecycle.takesTagRead then s.answer r .wrongState []
  else if length < 1 ∨ 32 < length ∨ 127 < offset + length - 1 then s.answer r .refused []
  else s.queueHostJob r { Job.fresh (some i) .hostRead .host with offset, length }

/-- TAG_READ (R57). -/
def execTagRead (s : State) : Host.Outcome State Fault Refusal := .next (s.serve .tagRead State.ownTagRead)

/-- TAG_WRITE's owner (R58). -/
def State.ownTagWrite (s : State) (r : Request) : State :=
  let i := bodyStation r.body
  let offset := (byteAt r.body 1).toNat
  let data := r.body.drop 2
  if !(s.station i).takesTagWrite then s.answer r .wrongState []
  else if offset < 64 ∨ 95 < offset + data.length - 1 then s.answer r .refused []
  else s.queueHostJob r { Job.fresh (some i) .hostWrite .host with offset, length := data.length, payload := some data }

/-- TAG_WRITE (R58). -/
def execTagWrite (s : State) : Host.Outcome State Fault Refusal := .next (s.serve .tagWrite State.ownTagWrite)

/-- The entry of a handle, freed (R59). -/
def State.freeResult (s : State) (handle : Nat) : State :=
  s.withBus { s.bus with results := s.bus.results.filter (fun e => e.handle != handle) }

/-- GET_JOB's owner (R59). -/
def State.ownGetJob (s : State) (r : Request) : State :=
  let handle := (byteAt r.body 0).toNat
  match s.bus.results.find? (fun e => e.handle == handle) with
  | some e => (s.freeResult handle).answer r .ok (hostResultBody e)
  | none =>
    match s.bus.jobs.find? (fun j => j.handle == handle && j.isHost) with
    | some j => s.answer r .queued (queuedJobBody j)
    | none => s.answer r .notFound []

/-- GET_JOB (R59). -/
def execGetJob (s : State) : Host.Outcome State Fault Refusal := .next (s.serve .getJob State.ownGetJob)

/-- The host job in the queue that ABORT_JOB names: by handle, or with handle 0 the one last in the queue's order (R60). -/
def Bus.namedHostJob (b : Bus) (handle : Nat) : Option Job :=
  if handle = 0 then b.jobs.reverse.find? Job.isHost else b.jobs.find? (fun j => j.handle == handle && j.isHost)

/-- A named host job aborted: cut at its byte boundary where it has a byte on the bus, otherwise ended at once (R60). -/
def State.abortJob (s : State) (j : Job) : State :=
  if s.bus.onBus j then s.withBus (s.bus.updateJob j.handle (Job.marked .abort)) else s.endJob j .aborted []

/-- ABORT_JOB's owner (R60). The OK reply to an abort that ends its job at once is formed after that end, so that its attention-pending bit
shows JOB_DONE: R60 gives no order (log entry 18). -/
def State.ownAbortJob (s : State) (r : Request) : State :=
  match s.bus.namedHostJob (byteAt r.body 0).toNat with
  | some j => (s.abortJob j).answer r .ok (oneByte j.handle)
  | none => s.answer r .notFound []

/-- ABORT_JOB (R60). -/
def execAbortJob (s : State) : Host.Outcome State Fault Refusal := .next (s.serve .abortJob State.ownAbortJob)

/-! ## SET_VOLUMES (R123) -/

/-- SET_VOLUMES' owner. -/
def State.ownSetVolumes (s : State) (r : Request) : State :=
  let i := bodyStation r.body
  let v := readVolumes r.body
  ((s.modStation i (fun x => { x with volumes := v })).endCondition (.uncalibrated i)).answer r .ok (oneByte i.val ++ volumeBytes v)

/-- SET_VOLUMES (R123). -/
def execSetVolumes (s : State) : Host.Outcome State Fault Refusal := .next (s.serve .setVolumes State.ownSetVolumes)

end Sys2Proof.Machine
end

