-- ==== Sys2Proof/Machine/StationRows.lean ====
section
/-! DEFINITION. The meanings of the station controller's own commands: the presence and ink-sense inputs, the debouncers' timers, and the
taking of a delivery (R10, R21, R22, R119, R156). The inputs' levels are kept whatever the part does, because a start-up samples them; a
station acts on them only in service (R190). -/

namespace Sys2Proof.Machine

/-- PRESENCE_ASSERTED (R10, R21). -/
def execPresenceAsserted (i : Station) (s : State) : Host.Outcome State Fault Refusal := .next (s.presenceRise i)

/-- PRESENCE_DEASSERTED (R10, R21). -/
def execPresenceDeasserted (i : Station) (s : State) : Host.Outcome State Fault Refusal := .next (s.presenceFall i)

/-- PRESENCE_REASSERTED: the same assertion, met while the removal timer runs (R21). -/
def execPresenceReasserted (i : Station) (s : State) : Host.Outcome State Fault Refusal := .next (s.presenceRise i)

/-- The seat timer's expiry: IDENTIFYING, then SEATED is raised (R10). -/
def State.seatTimerExpires (s : State) (i : Station) : State :=
  if (s.station i).lifecycle = .seated ∧ (s.station i).seatTimer then (s.enterIdentifying i).raise .seated (some i) 0 else s

/-- SEAT_TIMER_EXPIRY (R10). -/
def execSeatTimerExpiry (i : Station) (s : State) : Host.Outcome State Fault Refusal :=
  .next (s.whenInService (fun s => s.seatTimerExpires i))

/-- A station's context cleared at a removal, with its VERIFY request withdrawn (R22 step 2, R69). -/
def State.clearContext (s : State) (i : Station) : State := (s.withAuth (s.auth.withdrawVerify i)).setContext i none

/-- An authenticated cartridge of ACTIVE, QUARANTINED or DEPARTING entered as departed at a removal (R22 step 3). -/
def State.removeCartridge (s : State) (i : Station) : State :=
  match (s.station i).lifecycle with
  | .active | .quarantined | .departing => s.enterDeparted i
  | .vacant | .seated | .identifying | .authenticating | .released => s

/-- The station part of a removal: record and baseline absent, VACANT (R22 steps 4 to 6). -/
def StationRec.vacated (r : StationRec) : StationRec :=
  { r with lifecycle := .vacant, removalTimer := false, cartridge := none, ink := { r.ink with baseline := none } }

/-- A removal: jobs, context, departed entry, record, VACATED, in the order of R22. -/
def State.tearDown (s : State) (i : Station) : State :=
  ((((s.removeJobs i).clearContext i).removeCartridge i).modStation i StationRec.vacated).raise .vacated (some i) 0

/-- REMOVAL_TIMER_EXPIRY (R22). -/
def execRemovalTimerExpiry (i : Station) (s : State) : Host.Outcome State Fault Refusal :=
  .next (s.whenInService (fun s =>
    if (s.station i).removalTimer && (s.station i).lifecycle.held then s.tearDown i else s))

/-- An input change at a running debouncer: the candidate is the new level, the settle timer restarts (R156). -/
def InkSense.change (level : Bool) (k : InkSense) : InkSense := { k with candidate := level, settle := true }

/-- The station's part of an INK input's change (R156). -/
def State.inkChange (s : State) (i : Station) (level : Bool) : State :=
  if (s.station i).config.inkSenseEnable then s.modStation i (fun r => { r with ink := r.ink.change level }) else s

/-- INK_SENSE_CHANGE (R156). -/
def execInkSenseChange (i : Station) (level : Bool) (s : State) : Host.Outcome State Fault Refusal :=
  .next (if s.inkInputs[i] = level then s
    else (s.withInkInputs (s.inkInputs.set i level)).whenInService (fun s => s.inkChange i level))

/-- INK_SETTLE_EXPIRY (R156 to R158). -/
def execInkSettleExpiry (i : Station) (s : State) : Host.Outcome State Fault Refusal :=
  .next (s.whenInService (fun s => if (s.station i).ink.settle then s.settleInk i else s))

/-- W_DELIVERY: deliveries are taken in HALTED too (R119, R125). -/
def execWDelivery (i : Station) (s : State) : Host.Outcome State Fault Refusal := .next (s.whenRunning (fun s => s.takeDelivery i))

end Sys2Proof.Machine
end

