-- ==== Sys2Proof/Machine/TallyRows.lean ====
section
/-! DEFINITION. The meanings of the tally receiver's commands (chapter 5). The receiver does not act while the part is HALTED (R106). -/

namespace Sys2Proof.Machine

/-- Change the tally receiver's state in service. -/
def State.onTally (s : State) (f : Tally → Tally) : State := s.whenInService (fun s => s.withTally (f s.tally))

/-- TLC_EDGE (R84, R92). -/
def execTlcEdge (rising tld : Bool) (s : State) : Host.Outcome State Fault Refusal :=
  .next (s.whenInService (fun s => s.takeEdge rising tld))

/-- HUNT_MATCH (R88). -/
def execHuntMatch (s : State) : Host.Outcome State Fault Refusal := .next (s.onTally Tally.huntMatch)

/-- CANDIDATE_TEST (R89). -/
def execCandidateTest (s : State) : Host.Outcome State Fault Refusal := .next (s.onTally Tally.candidateTest)

/-- CONFIRM_TEST (R90). -/
def execConfirmTest (s : State) : Host.Outcome State Fault Refusal := .next (s.whenInService State.confirmTest)

/-- FRAME_JUDGED (R91). -/
def execFrameJudged (s : State) : Host.Outcome State Fault Refusal := .next (s.whenInService State.judgeFrame)

/-- FRAME_POSITION_COMPLETE (R93). -/
def execFramePositionComplete (s : State) : Host.Outcome State Fault Refusal := .next (s.onTally Tally.completePosition)

/-- CYCLE_END (R94). -/
def execCycleEnd (s : State) : Host.Outcome State Fault Refusal := .next (s.whenInService State.endCycle)

/-- CYCLE_TIMER_EXPIRY (R97). -/
def execCycleTimerExpiry (s : State) : Host.Outcome State Fault Refusal := .next (s.whenInService State.cycleTimerExpires)

/-- The silence timer's expiry: LINK_SILENT; the next edge starts it again (R92). -/
def State.silenceExpires (s : State) : State :=
  if s.tally.silenceTimer then (s.withTally { s.tally with silenceTimer := false }).raiseCondition .linkSilent 0 else s

/-- SILENCE_TIMER_EXPIRY (R92). -/
def execSilenceTimerExpiry (s : State) : Host.Outcome State Fault Refusal := .next (s.whenInService State.silenceExpires)

end Sys2Proof.Machine
end

