-- ==== Sys2Proof/Machine/Dispatch.lean ====
section
/-! DEFINITION. The dispatch: one arm per command, each a direct call of the command's meaning. -/

namespace Sys2Proof.Machine

def exec (i : Instr) (s : State) : Host.Outcome State Fault Refusal :=
  match i with
  | .powerOn => Sys2Proof.Machine.execPowerOn s
  | .powerLoss landed => Sys2Proof.Machine.execPowerLoss landed s
  | .resetNFall landed => Sys2Proof.Machine.execResetNFall landed s
  | .resetNRise => Sys2Proof.Machine.execResetNRise s
  | .hlFrameComplete => Sys2Proof.Machine.execHlFrameComplete s
  | .gapTimerExpiry => Sys2Proof.Machine.execGapTimerExpiry s
  | .lineError => Sys2Proof.Machine.execLineError s
  | .takeRequest => Sys2Proof.Machine.execTakeRequest s
  | .replySent => Sys2Proof.Machine.execReplySent s
  | .identify => Sys2Proof.Machine.execIdentify s
  | .getStatus => Sys2Proof.Machine.execGetStatus s
  | .configPart => Sys2Proof.Machine.execConfigPart s
  | .getStation => Sys2Proof.Machine.execGetStation s
  | .configStation => Sys2Proof.Machine.execConfigStation s
  | .release => Sys2Proof.Machine.execRelease s
  | .tagRead => Sys2Proof.Machine.execTagRead s
  | .tagWrite => Sys2Proof.Machine.execTagWrite s
  | .getJob => Sys2Proof.Machine.execGetJob s
  | .abortJob => Sys2Proof.Machine.execAbortJob s
  | .authenticate => Sys2Proof.Machine.execAuthenticate s
  | .admitCartridge => Sys2Proof.Machine.execAdmit s
  | .revokeKey => Sys2Proof.Machine.execRevokeKey s
  | .configLink => Sys2Proof.Machine.execConfigLink s
  | .readLink => Sys2Proof.Machine.execReadLink s
  | .tally => Sys2Proof.Machine.execTally s
  | .setVolumes => Sys2Proof.Machine.execSetVolumes s
  | .listDeparted => Sys2Proof.Machine.execListDeparted s
  | .forget => Sys2Proof.Machine.execForget s
  | .getEvents => Sys2Proof.Machine.execGetEvents s
  | .setMask => Sys2Proof.Machine.execSetMask s
  | .shutdown => Sys2Proof.Machine.execShutdown s
  | .restart => Sys2Proof.Machine.execRestart s
  | .retainedStoreWriteComplete => Sys2Proof.Machine.execRetainedStoreWriteComplete s
  | .presenceAsserted station => Sys2Proof.Machine.execPresenceAsserted station s
  | .presenceDeasserted station => Sys2Proof.Machine.execPresenceDeasserted station s
  | .presenceReasserted station => Sys2Proof.Machine.execPresenceReasserted station s
  | .seatTimerExpiry station => Sys2Proof.Machine.execSeatTimerExpiry station s
  | .removalTimerExpiry station => Sys2Proof.Machine.execRemovalTimerExpiry station s
  | .inkSenseChange station asserted => Sys2Proof.Machine.execInkSenseChange station asserted s
  | .inkSettleExpiry station => Sys2Proof.Machine.execInkSettleExpiry station s
  | .arbiterStartJob => Sys2Proof.Machine.execArbiterStartJob s
  | .jobTransactionEnd how => Sys2Proof.Machine.execJobTransactionEnd how s
  | .responsePoll => Sys2Proof.Machine.execResponsePoll s
  | .pollTimerExpiry handle => Sys2Proof.Machine.execPollTimerExpiry handle s
  | .retryTimerExpiry handle => Sys2Proof.Machine.execRetryTimerExpiry handle s
  | .writePhaseEnd acknowledged => Sys2Proof.Machine.execWritePhaseEnd acknowledged s
  | .statusPoll => Sys2Proof.Machine.execStatusPoll s
  | .statusPollWaitExpiry => Sys2Proof.Machine.execStatusPollWaitExpiry s
  | .statusRead status => Sys2Proof.Machine.execStatusRead status s
  | .jobCutAtByteBoundary => Sys2Proof.Machine.execJobCutAtByteBoundary s
  | .arbitrationLost => Sys2Proof.Machine.execArbitrationLost s
  | .foreignStart => Sys2Proof.Machine.execForeignStart s
  | .stopCondition => Sys2Proof.Machine.execStopCondition s
  | .foreignTimeout => Sys2Proof.Machine.execForeignTimeout s
  | .stuckBus => Sys2Proof.Machine.execStuckBus s
  | .recoveryEnd cbdHigh => Sys2Proof.Machine.execRecoveryEnd cbdHigh s
  | .faultRetryExpiry cbdHigh => Sys2Proof.Machine.execFaultRetryExpiry cbdHigh s
  | .verifyComputationStart => Sys2Proof.Machine.execVerifyComputationStart s
  | .verifyCompletion => Sys2Proof.Machine.execVerifyCompletion s
  | .huntMatch => Sys2Proof.Machine.execHuntMatch s
  | .candidateTest => Sys2Proof.Machine.execCandidateTest s
  | .confirmTest => Sys2Proof.Machine.execConfirmTest s
  | .frameJudged => Sys2Proof.Machine.execFrameJudged s
  | .framePositionComplete => Sys2Proof.Machine.execFramePositionComplete s
  | .cycleEnd => Sys2Proof.Machine.execCycleEnd s
  | .cycleTimerExpiry => Sys2Proof.Machine.execCycleTimerExpiry s
  | .silenceTimerExpiry => Sys2Proof.Machine.execSilenceTimerExpiry s
  | .cycleComputation => Sys2Proof.Machine.execCycleComputation s
  | .wDelivery station => Sys2Proof.Machine.execWDelivery station s
  | .tlcEdge rising tld => Sys2Proof.Machine.execTlcEdge rising tld s
  | .hlByteReceived byte => Sys2Proof.Machine.execHlByteReceived byte s
  | .responseReadEnd response => Sys2Proof.Machine.execResponseReadEnd response s

end Sys2Proof.Machine
end

