-- ==== Sys2Proof/Safety.lean ====
section
/-! DEFINITION. What counts as a safe run, in the words of the statements: the invariants of the part that the manual states, and the
answer of a step. -/

namespace Sys2Proof.Safety

open Sys2Proof.Machine

/-- An outcome is a next state: the machine did not stop. -/
def completes (o : Host.Outcome State Fault Refusal) : Prop := ∃ t, o = .next t

/-- Whether an outcome is the next state `t`. -/
def goesTo (o : Host.Outcome State Fault Refusal) (t : State) : Prop := o = .next t

/-- At most one entry per kind and station in the event queue (R164). -/
def pairsDistinct (entries : List EventEntry) : Prop := entries.Pairwise (fun a b => ¬ (a.kind = b.kind ∧ a.place = b.place))

/-- The event queue holds at most 32 entries and at most one per pair, each with a repeat count of 1 to 255 (R162, R164). -/
structure QueueInv (q : EventQueue) : Prop where
  bounded : q.entries.length ≤ Config.eventSlots
  distinct : pairsDistinct q.entries
  counted : ∀ e ∈ q.entries, 1 ≤ e.count ∧ e.count ≤ 255

/-- The departed table holds at most 24 entries, no two with the same serial (R145). -/
structure DepartedInv (t : DepartedTable) : Prop where
  bounded : t.entries.length ≤ Config.departedSlots
  distinct : t.entries.Pairwise (fun a b => a.serial ≠ b.serial)

/-- The receive buffer holds at most two frames (R173). -/
def BufferInv (h : HostLink) : Prop := h.slots.length ≤ Config.rxSlots

/-- The metering unit's pending store holds at most two cycles (R110). -/
def PendingInv (m : MeterUnit) : Prop := m.cycles.length ≤ Config.pendingCycleSlots

/-- A station's fraction accumulator lies in 0 to 15,999 vu (R108). -/
def FractionInv (s : State) : Prop := ∀ i : Station, (s.station i).meter.fraction < Config.vuPerNl

/-- A REVOKED key slot stays REVOKED (R72). -/
def keepsRevoked (before after : Retained) : Prop :=
  ∀ k : KeySlot, (before.keySlots[k]).state = .revoked → (after.keySlots[k]).state = .revoked

/-! ## The words of the statements -/

/-- The part has power and RESET_N is high (R187). -/
def up (s : State) : Prop := s.powered = true ∧ s.resetN = true

/-- The part is up and OPERATING (R189). -/
def serving (s : State) : Prop := up s ∧ s.operating = .operating

/-- The request engine of the part, which is up, has handed a request to its owner (R177 step 6). -/
def handed (s : State) (kind : RequestKind) (tag : Byte) (body : List Byte) : Prop :=
  up s ∧ s.link.engine = .handed ⟨kind, tag, body⟩

/-- The FLAGS byte with its four bits (R179). -/
def flagBits (attention overrun halted lost : Bool) : Byte :=
  BitVec.ofNat 8 (attention.toNat + 2 * overrun.toNat + 4 * halted.toNat + 8 * lost.toNat)

/-- A reply formed on a state, with the events-lost bit given: it joins the replies to be sent, the overrun flag is cleared, and the
engine is ready for the next frame (R176 to R179). Nothing else changes. -/
def repliedWith (lost : Bool) (s : State) (kind tag : Byte) (status : Status) (body : List Byte) : State :=
  s.withLink { s.link with
    overrun := false, engine := .ready
    replies := s.link.replies ++
      [⟨kind, tag, status, flagBits (!s.events.entries.isEmpty) s.link.overrun (s.operating == .halted) lost, body⟩] }

/-- A reply of any request but GET_EVENTS formed on a state: its events-lost bit is 0 (R170). -/
def replied (s : State) (kind tag : Byte) (status : Status) (body : List Byte) : State := repliedWith false s kind tag status body

/-- The host link number of `n` bytes at a place of a body, least significant byte first; a byte that is not there counts 0. -/
def le (body : List Byte) (place : Nat) : Nat → Nat
  | 0 => 0
  | n + 1 => (body.getD place 0).toNat + 256 * le body (place + 1) n

/-- A number as `n` bytes, least significant byte first. -/
def put (n x : Nat) : List Byte := (List.range n).map (fun k => BitVec.ofNat 8 (x / 256 ^ k))

/-- A value clamped to the nearer limit of a range (R6). -/
def within (low high x : Nat) : Nat := max low (min high x)

/-- The place of a job in the queue: `pre` entered before it and `post` after it, and no other job has its handle. -/
def queued (s : State) (pre : List Job) (j : Job) (post : List Job) : Prop :=
  s.bus.jobs = pre ++ j :: post ∧ ∀ k ∈ pre ++ post, k.handle ≠ j.handle

/-- The ACTIVE job, which nothing is about to cut; the condition is as given. -/
def running (s : State) (condition : BusCondition) (pre : List Job) (j : Job) (post : List Job) : Prop :=
  queued s pre j post ∧ j.state = .active ∧ j.cut = none ∧ s.bus.condition = condition ∧ ∀ k ∈ pre ++ post, k.state ≠ .active

/-- The bus engine with a new queue after its transaction has ended with a stop: the condition is FREE (R52). -/
def released (b : Bus) (jobs : List Job) : Bus :=
  { b with jobs, condition := .free, foreignTimer := false, faultTimer := false, failedRecoveries := 0, transaction := none }

/-- A job that is to be cut at its next byte boundary for a reason, which gives its result; where it was to be cut already, which of the two
reasons holds is a free choice (R46, R60, R61, log entry 15). -/
def toBeCut (reason : CutReason) (j : Job) : Job :=
  { j with cut := some (match j.cut with
      | none => reason
      | some first => if Config.laterCutHolds (decide (first = .removal)) then reason else first) }

/-- A retained store after one item has been replaced whole (R186). -/
def stored (m : Retained) : StoreItem → Retained
  | .keyRevoked k => { m with keySlots := m.keySlots.set k { m.keySlots[k] with state := .revoked } }
  | .departed d => { m with departed := d }
  | .checkpoint i k => { m with checkpoints := m.checkpoints.set i k }

/-- A state whose request engine takes no further frame (R191 step 3). -/
def engineStopped (t : State) : State := t.withLink { t.link with engine := .stopped }

/-- A job as it stands in RETRY after a failed attempt, its retry timer at the poll spacing (R50). -/
def inRetry (j : Job) (failure : LastFailure) (spacing : Nat) : Job :=
  { j with state := .retry, lastFailure := failure, attempts := j.attempts - 1, timer := some spacing, phase := .transaction }

/-- A checkpoint or departed figures taken from a cartridge record: they exist where the cartridge is authenticated and its identity,
capacity and used figure are present (R141). -/
def accountOf (c : CartridgeRecord) : Option Checkpoint :=
  match c.identity, c.capacity, c.account with
  | some id, some capacity, some a =>
    if c.authenticated then
      some ⟨id.serial, id.inkType, capacity, a.used, a.lastWritten, if c.trust = .refilled then .refilled else .genuine, c.evidence⟩
    else none
  | _, _, _ => none

/-- The checkpoints that SHUTDOWN and RESTART write, in station order (R189 step 2). -/
def checkpointsDue (s : State) : List StoreItem :=
  ([0, 1, 2, 3, 4, 5, 6, 7] : List Station).filterMap (fun i =>
    let r := s.station i
    if r.lifecycle = .active ∨ r.lifecycle = .quarantined ∨ r.lifecycle = .departing then
      (r.cartridge.bind accountOf).map (fun c => .checkpoint i (some c))
    else none)

/-- A part that has just started with a departed table, from a state whose pins, store, draws and waiting commands it keeps: every
volatile item is at its start-up value, the WAKE is queued and the stations whose presence input is asserted are SEATED (R187). -/
structure StartedWith (s t : State) (table : DepartedTable) : Prop where
  power : t.powered = true ∧ t.resetN = true ∧ t.operating = .operating
  pins : t.presence = s.presence ∧ t.inkInputs = s.inkInputs ∧ t.pending = s.pending ∧ t.draws = s.draws
  link : t.link = { receiver := .hunting, slots := [], overrun := false, replies := [], engine := .ready }
  stations : ∀ i : Station, t.station i =
    if s.presence[i] then { StationRec.initial with lifecycle := .seated, seatTimer := true } else StationRec.initial
  bus : t.bus = { jobs := [Job.firstWake], lastHandle := 1, results := [], condition := .free, foreignTimer := false,
                  faultTimer := false, failedRecoveries := 0, transaction := none }
  auth : (∀ i : Station, t.context i = none) ∧ t.auth.fifo = [] ∧ t.auth.computing = none
  tally : t.tally = Tally.initial
  meter : t.meter = { cycles := [], deliveries := [] }
  part : t.part = PartConfig.initial
  departed : t.departed = table
  events : t.events.lost = false ∧ t.events.mask = 0 ∧ ∀ k : Fin 30, t.events.armed[k] = true ∧ t.standing[k] = none

/-- A state after figures of a station have been entered in the departed table: the event of an evicted entry, the table with the figures,
the table's write, and after it the clearing of the station's checkpoint (R147, R149, R188). -/
def accountEntered (t : State) (i : Station) (k : Checkpoint) : State :=
  let table := t.departed.insert ⟨k.serial, k.inkType, k.capacity, k.used, k.lastWritten, k.cls, k.evidence, 0, i⟩
  ((t.withEvents (match t.departed.evicted k.serial with
    | some old => t.events.raise none .departedEvicted (some old.station) (old.serial.toNat % 4294967296)
    | none => t.events)).withDeparted table).withWrites (t.writes ++ [⟨.departed table, false⟩, ⟨.checkpoint i none, false⟩])

/-- The departed table, the events and the writes as a start-up's fold leaves them: from the stored table and an event queue at its start-up
value, the held checkpoints of the stations entered one after another in station order (R187, R188). -/
def foldedFrom (s : State) (m : Retained) : State :=
  ([0, 1, 2, 3, 4, 5, 6, 7] : List Station).foldl
    (fun t i => match m.checkpoints[i] with
      | some k => accountEntered t i k
      | none => t)
    (((s.withDeparted m.departed).withEvents EventQueue.initial).withWrites [])

/-- A part that has just started from the contents of its retained store, with the held checkpoints folded in (R187, R188). -/
def startedFrom (s : State) (m : Retained) (t : State) : Prop :=
  let folded := foldedFrom s m
  StartedWith s t folded.departed ∧ t.events = folded.events ∧ t.store = m ∧ t.writes = folded.writes

/-- The ways a job may be started now: it is QUEUED, or it waits with no timer running, and it is no write-back of a station that has
an auth context (R45). -/
def mayStart (s : State) (j : Job) : Prop :=
  (j.state = .queued ∨ ((j.state = .polling ∨ j.state = .retry) ∧ j.timer = none)) ∧
    ¬ (j.kind = .writeUsage ∧ ∃ i, j.target = some i ∧ s.context i ≠ none)

/-- The departed table's order: departure sequences rise from head to tail and lie below the counter, which fits 32 bits (R146). -/
structure SequenceInv (t : DepartedTable) : Prop where
  rising : t.entries.Pairwise (fun a b => a.sequence < b.sequence)
  below : ∀ e ∈ t.entries, e.sequence < t.nextSequence
  fits : t.nextSequence ≤ 4294967295

/-- The departed table as held, as stored, and as every write that waits would leave it. -/
def TablesInv (s : State) : Prop :=
  ∀ t, (t = s.departed ∨ t = s.store.departed ∨ ∃ w ∈ s.writes, w.item = .departed t) → DepartedInv t ∧ SequenceInv t

/-- The whole nanolitres on their way to a station's controller. -/
def underWay (s : State) (i : Station) : Nat := ((s.meter.deliveries.filter (fun d => d.station = i)).map (·.nl)).sum

/-- Conservation at every station: while the converted total has not saturated, it is the charged total plus the debt plus the dry overflow
plus what is under way (R122). -/
def Conserved (s : State) : Prop :=
  ∀ i : Station, let m := (s.station i).meter
    m.converted < 4294967295 → m.converted = m.charged + m.debt + m.dryOverflow + underWay s i

/-- The debt never exceeds the swap reserve, and is 0 in ACTIVE (R131). -/
def DebtInv (s : State) : Prop :=
  ∀ i : Station, (s.station i).meter.debt ≤ (s.station i).config.swapReserve ∧
    ((s.station i).lifecycle = .active → (s.station i).meter.debt = 0)

/-- What the parts of a station are in each lifecycle state: the cartridge record, the quarantine cause, the auth context and the two
timers (R7, R10, R21). -/
def StationInv (s : State) : Prop :=
  ∀ i : Station, let r := s.station i
    (r.cartridge = none ↔ (r.lifecycle = .vacant ∨ r.lifecycle = .seated)) ∧
    ((∃ c, r.cartridge = some c ∧ c.cause ≠ none) ↔ r.lifecycle = .quarantined) ∧
    (r.lifecycle = .identifying ∨ r.lifecycle = .authenticating → ∃ x, s.context i = some x ∧ x.recheck = false) ∧
    (∀ x, s.context i = some x → (x.recheck = true ∧ r.lifecycle = .active) ∨
      (x.recheck = false ∧ (r.lifecycle = .identifying ∨ r.lifecycle = .authenticating))) ∧
    (r.seatTimer = true → r.lifecycle = .seated) ∧
    (r.removalTimer = true → r.lifecycle ≠ .vacant ∧ r.lifecycle ≠ .seated)

/-- The VERIFY requests whose completion can still occur: those in the FIFO and one in computation that is not withdrawn (R69). -/
def liveRequests (s : State) : List VerifyRequest :=
  (match s.auth.computing with
    | some c => if c.withdrawn then [] else [c.request]
    | none => []) ++ s.auth.fifo

/-- Every VERIFY request that can complete belongs to a context that waits for it, at most one to a station, and names the key index that
the station's record holds (R65, R68, R69). -/
def VerifyInv (s : State) : Prop :=
  (liveRequests s).Pairwise (fun a b => a.station ≠ b.station) ∧
  ∀ r ∈ liveRequests s, (∃ x, s.context r.station = some x ∧ x.step = .verify) ∧
    ∃ c id, (s.station r.station).cartridge = some c ∧ c.identity = some id ∧ id.keyIndex = r.keyIndex

/-- No station is ACTIVE with a cartridge whose key index names a REVOKED slot (R74). -/
def RevocationInv (s : State) : Prop :=
  ∀ (i : Station) (k : KeySlot) (c : CartridgeRecord) (id : Identity), (s.station i).lifecycle = .active →
    (s.station i).cartridge = some c → c.identity = some id → id.keyIndex = k.val → (s.store.keySlots[k]).state ≠ .revoked

/-- What every step keeps of the station records, the VERIFY requests and the key slots. -/
structure TrustInv (s : State) : Prop where
  stations : StationInv s
  verifies : VerifyInv s
  revocations : RevocationInv s

/-- The buffers of the request engine and of the metering unit are within their places (R110, R173). -/
def PlacesInv (s : State) : Prop := BufferInv s.link ∧ PendingInv s.meter

/-- A job as it enters the queue under a handle, with its payload or none (R40). -/
def freshJob (handle : Nat) (target : Option Station) (kind : JobKind) (cls : JobClass) (payload : Option (List Byte)) : Job :=
  { handle, target, kind, cls, state := .queued, attempts := 3, polls := 0, payload, offset := 0, length := 0, lastFailure := .none,
    followOn := none, timer := none, phase := .transaction, written := none, disowned := false, cut := none }

/-- A job in the queue or a result entry holds the number (R41). -/
abbrev handleHeld (s : State) (handle : Nat) : Prop :=
  (∃ j ∈ s.bus.jobs, j.handle = handle) ∨ ∃ e ∈ s.bus.results, e.handle = handle

/-- The number is the next handle: counting on from the last one given, 1 to 255 and then 1 again, the first that nothing holds (R41). -/
def nextFree (s : State) (handle : Nat) : Prop :=
  ∃ n, n < 255 ∧ handle = (s.bus.lastHandle + n) % 255 + 1 ∧ ¬ handleHeld s handle ∧
    ∀ m, m < n → handleHeld s ((s.bus.lastHandle + m) % 255 + 1)

/-- A job of class AUTH of the station is in the queue (R44). -/
abbrev authBusy (s : State) (i : Station) : Prop := ∃ j ∈ s.bus.jobs, j.cls = .auth ∧ j.target = some i

/-- A read of `n` bytes from a station's tag: a pointer setting, a repeated start, and the bytes, all but the last acknowledged (R46). -/
def tagRead (i : Station) (offset n : Nat) : List BusElement :=
  [.start, .send (BitVec.ofNat 8 (2 * (0x30 + i.val))), .send (BitVec.ofNat 8 offset), .start,
    .send (BitVec.ofNat 8 (2 * (0x30 + i.val) + 1))] ++ List.replicate (n - 1) (.receive true) ++ [.receive false, .stop]

/-- A write of bytes to a station's tag at an offset (R36, R46). -/
def tagWrite (i : Station) (offset : Nat) (bytes : List Byte) : List BusElement :=
  [.start, .send (BitVec.ofNat 8 (2 * (0x30 + i.val))), .send (BitVec.ofNat 8 offset)] ++ bytes.map .send ++ [.stop]

/-- The transaction that each kind of job opens as it becomes ACTIVE (R47 to R49). -/
def opens (j : Job) : List BusElement :=
  match j.kind, j.target with
  | .wake, _ => [.start, .send 0x00, .send 0x5B, .stop]
  | .readId, some i => tagRead i 0 36
  | .challenge, some i => tagWrite i 40 (j.payload.getD [])
  | .response, some i => tagRead i 48 8
  | .writeUsage, some i => tagWrite i 24 (j.payload.getD [])
  | .hostRead, some i => tagRead i j.offset j.length
  | .hostWrite, some i => tagWrite i j.offset (j.payload.getD [])
  | _, none => []

/-- The 12 bytes of a usage write, most significant byte first, the last making the sum of all of them 0 modulo 256 (R2, R38). -/
def usageWrite (used : Nat) (flags : TagFlags) (partId : BitVec 32) (bytes : List Byte) : Prop :=
  ∃ check : Byte,
    bytes = (put 4 used).reverse ++ put 1 (flags.emptyLatch.toNat + 2 * flags.refillMark.toNat) ++ (put 4 partId.toNat).reverse
      ++ [0, 0, check] ∧
    (bytes.map (·.toNat)).sum % 256 = 0

/-- The number that bytes spell, most significant byte first, as on the cartridge bus. -/
def be (bytes : List Byte) (place n : Nat) : Nat := le (((bytes.drop place).take n).reverse) 0 n

/-- A byte's bits as they arrive on the tally link, most significant first (R84). -/
def bitsOf (b : Byte) : List Bool := (List.range 8).map (fun k => b.getMsbD k)

/-- The bits begin with the marker 0xC7, 0x39 and the index byte that carries this index (R84). -/
def startsFrame (bits : List Bool) (index : Fin 8) : Prop :=
  ∃ rest, bits = bitsOf 0xC7 ++ bitsOf 0x39 ++ bitsOf (BitVec.ofNat 8 (index.val + 16 * (7 - index.val))) ++ rest

/-- The number that a run of bits spells, most significant first. -/
def spelled (bits : List Bool) : Nat := bits.foldl (fun n b => 2 * n + b.toNat) 0

/-- The count of a drop class, 0 SMALL to 3 SERVICE, that a frame carries for a station (R85). -/
def frameCount (bits : List Bool) (i : Station) (cls : Nat) : Nat := spelled ((bits.drop (24 + 40 * i.val + 10 * cls)).take 10)

/-- The bytes of a frame from one byte on. -/
def frameBytes (bits : List Bool) (first n : Nat) : List Byte :=
  (List.range n).map (fun k => BitVec.ofNat 8 (spelled ((bits.drop (8 * (first + k))).take 8)))

/-- A search over kept bits leaves `rest`: every position before it has its 24 bits and no frame starts there, and at it a frame starts or
fewer than 24 bits are there (R88). -/
def searched (bits rest : List Bool) : Prop :=
  ∃ n, n ≤ bits.length ∧ rest = bits.drop n ∧ (∀ m < n, 24 ≤ (bits.drop m).length ∧ ∀ k, ¬ startsFrame (bits.drop m) k) ∧
    (rest.length < 24 ∨ ∃ k, startsFrame rest k)

/-- The maximum of a link counter at a width (R100). -/
def counterTop (width : Nat) : Nat := if width = 10 then 1023 else 255

/-- The cycle buffer as a collection begins (R93). -/
def emptyBuffer : CycleBuffer :=
  { positions := 0, sums := Vector.replicate 8 ⟨0, 0, 0, 0⟩, temps := Vector.replicate 8 none, failed := false, crc := 0xFFFF,
    carried := 0 }

/-- A commit's cycle joins the metering unit's pending store where that has a place (R99, R110). -/
def handedOn (m : MeterUnit) (c : CommittedCycle) : MeterUnit := if m.cycles.length < 2 then { m with cycles := m.cycles ++ [c] } else m

/-- The level band of figures under the two permille limits (R126, R127). -/
def levelAt (p : PartConfig) (capacity used : Nat) : LevelBand :=
  if capacity ≤ used then .empty
  else if (capacity - used) * 1000 / capacity ≤ p.criticalPermille then .critical
  else if (capacity - used) * 1000 / capacity ≤ p.lowPermille then .low else .ok

/-- The code of a level band (R194). -/
def levelNumber : LevelBand → Nat
  | .ok => 0 | .low => 1 | .critical => 2 | .empty => 3

/-- A computed band is a change that is reported: it differs from the band held and is no first band of OK (R128). -/
def reportedBand (held : Option LevelBand) (b : LevelBand) : Bool := decide (held ≠ some b ∧ ¬ (held = none ∧ b = .ok))

/-- A cartridge record after its level band has been computed from its figures: the band, its changed flag, and at a first arrival at
EMPTY the empty latch and the empty-raised flag (R128, R129). -/
def withLevel (p : PartConfig) (capacity used : Nat) (c : CartridgeRecord) : CartridgeRecord :=
  let b := levelAt p capacity used
  { c with band := some b, bandChanged := c.bandChanged || reportedBand c.band b,
           emptyLatch := c.emptyLatch || decide (b = .empty ∧ c.emptyRaised = false),
           emptyRaised := c.emptyRaised || decide (b = .empty) }

/-- What that computation raises: LEVEL_BAND for a reported band, then CARTRIDGE_EMPTY at a first arrival at EMPTY (R128, R129). -/
def levelEvents (p : PartConfig) (i : Station) (capacity used : Nat) (c : CartridgeRecord) (q : EventQueue) : EventQueue :=
  let b := levelAt p capacity used
  let q1 := if reportedBand c.band b then q.raise none .levelBand (some i) (levelNumber b) else q
  if b = .empty ∧ c.emptyRaised = false then q1.raise none .cartridgeEmpty (some i) used else q1

/-- A write-back need of a record at a quantum: a trusted class, and a quantum of charges above the base or a flag that is not among the
base flags (R136). -/
def needsWriteBack (quantum : Nat) (c : CartridgeRecord) : Bool :=
  match c.account with
  | some a => decide ((c.trust = .genuine ∨ c.trust = .refilled) ∧ (a.baseUsed + quantum ≤ a.used ∨
      (c.emptyLatch = true ∧ a.baseFlags.emptyLatch = false) ∨ (c.refillMark = true ∧ a.baseFlags.refillMark = false)))
  | none => false

/-- A state after the test for a write-back need of a station's record, which only an ACTIVE station has (R136). -/
def afterNeed (t : State) (i : Station) (c : CartridgeRecord) : State :=
  if (t.station i).lifecycle = .active ∧ needsWriteBack t.part.quantum c = true then t.requestWriteBack i .writeBack else t

/-- A state after a station's level band has been computed, where its record has capacity and used: the band and what it raises, and the test
for a write-back need where the empty latch is newly set (R128, R129, R136). -/
def bandComputed (t : State) (i : Station) : State :=
  match (t.station i).cartridge with
  | none => t
  | some c =>
    match c.capacity, c.account with
    | some capacity, some a =>
      let c1 := withLevel t.part capacity a.used c
      let x := (t.withEvents (levelEvents t.part i capacity a.used c t.events)).setStation i { t.station i with cartridge := some c1 }
      if c1.emptyLatch = c.emptyLatch then x else afterNeed x i c1
    | _, _ => t

/-- The bus queue after a station's write-back is withdrawn: a WRITE_USAGE job of it that is QUEUED or in RETRY is gone, one that has
started runs on without follow-on, its result to be discarded (R44). -/
def withdrawnJobs (jobs : List Job) (i : Station) : List Job :=
  (jobs.filter (fun j => ¬ (j.kind = .writeUsage ∧ j.target = some i ∧ (j.state = .queued ∨ j.state = .retry)))).map (fun j =>
    if j.kind = .writeUsage ∧ j.target = some i then { j with disowned := true, followOn := none } else j)

/-- The code of a trust class (R194). -/
def trustNumber : TrustClass → Nat
  | .pending => 0 | .genuine => 1 | .refilled => 2 | .unverified => 3

/-- The code of a kind of evidence (R194). -/
def evidenceNumber : EvidenceKind → Nat
  | .rollback => 1 | .emptyReturn => 2 | .marked => 3 | .overdraw => 4 | .senseRise => 5 | .conflict => 6

/-- Two evidence sets together (R151). -/
def joinedEvidence (a b : EvidenceSet) : EvidenceSet :=
  ⟨a.rollback || b.rollback, a.emptyReturn || b.emptyReturn, a.marked || b.marked, a.overdraw || b.overdraw,
    a.senseRise || b.senseRise, a.conflict || b.conflict⟩

/-- The evidence set of the kinds in a list. -/
def setOf (kinds : List EvidenceKind) : EvidenceSet :=
  ⟨decide (.rollback ∈ kinds), decide (.emptyReturn ∈ kinds), decide (.marked ∈ kinds), decide (.overdraw ∈ kinds),
    decide (.senseRise ∈ kinds), decide (.conflict ∈ kinds)⟩

/-- A station after an entry to QUARANTINED: the state and the cause recorded, the rest as it was (R8). -/
def quarantinedFor (cause : QuarantineCause) (r : StationRec) (c : CartridgeRecord) : StationRec :=
  { r with lifecycle := .quarantined, cartridge := some { c with cause := some cause } }

/-- A state after a station's auth context, where it has one, has been abandoned: its AUTH job that is QUEUED or in RETRY has left the queue, one
in flight runs on with its result to be discarded, its VERIFY requests are withdrawn, and the context is absent (R8, R44, R69). -/
def withoutContext (s : State) (i : Station) : State :=
  match s.context i with
  | none => s
  | some _ =>
    (s.withBus { s.bus with
      jobs := (s.bus.jobs.filter (fun j => ¬ (j.cls = .auth ∧ j.target = some i ∧ (j.state = .queued ∨ j.state = .retry)))).map
        (fun j => if j.cls = .auth ∧ j.target = some i then { j with disowned := true } else j) }).withAuth { s.auth with
          contexts := s.auth.contexts.set i none
          fifo := s.auth.fifo.filter (fun r => r.station ≠ i)
          computing := s.auth.computing.map (fun c => if c.request.station = i then { c with withdrawn := true } else c) }

/-- A state after a station's entry to QUARANTINED: the state and the cause, without a context, and QUARANTINED raised with the cause's code
(R8). -/
def toQuarantine (t : State) (i : Station) (c : CartridgeRecord) (cause : QuarantineCause) (code : Nat) : State :=
  (withoutContext (t.setStation i (quarantinedFor cause (t.station i) c)) i).raise .quarantined (some i) code

/-- A state with a new context of a station at READ for attempt 1: its READ_ID of class AUTH at the tail of the queue under the handle, or,
while an AUTH job of the station is still in the queue, waiting for it (R44, R63, R78). -/
def contextStarted (t : State) (i : Station) (recheck : Bool) (handle : Nat) : State :=
  if authBusy t i then t.setContext i (some ⟨.read, recheck, 1, none, none, none, true⟩)
  else (t.setContext i (some ⟨.read, recheck, 1, none, none, none, false⟩)).withBus { t.bus with
    jobs := t.bus.jobs ++ [freshJob handle (some i) .readId .auth none], lastHandle := handle }

/-- A state after a station's AUTH job has left the queue: the READ_ID of a context that waited for it is queued under the handle, where it was
the last of the station (R44). -/
def dueJobQueued (t : State) (i : Station) (handle : Nat) : State :=
  match t.context i with
  | some x =>
    if x.firstJobDue = true ∧ ¬ authBusy t i then
      (t.setContext i (some { x with firstJobDue := false })).withBus { t.bus with
        jobs := t.bus.jobs ++ [freshJob handle (some i) .readId .auth none], lastHandle := handle }
    else t
  | none => t

/-- A state after an attempt of a station's context has begun: its challenge drawn, and the CHALLENGE job with it at the tail of the queue under
the handle (R64). -/
def attemptBegun (t : State) (i : Station) (x : AuthContext) (handle : Nat) : State :=
  ((t.setContext i (some { x with step := .challenge, challenge := some (Config.randomDraw t.draws) })).withBus { t.bus with
    jobs := t.bus.jobs ++ [freshJob handle (some i) .challenge .auth (some ((put 8 (Config.randomDraw t.draws).toNat).reverse))]
    lastHandle := handle }).withDraws (t.draws + 1)

/-- A state after an attempt of a station's context has ended with NO_ANSWER, its job gone already: attempt 1 leads to attempt 2 with that ending
held, attempt 2 to QUARANTINED with NO_RESPONSE (R65, R66). -/
def unanswered (t : State) (i : Station) (x : AuthContext) (c : CartridgeRecord) (handle : Nat) : State :=
  if x.attempt = 1 then attemptBegun t i { x with attempt := 2, lastEnding := some .noAnswer } handle
  else toQuarantine t i c .noResponse 7

/-- A state after a host job has finished: its entry in the result table, and JOB_DONE with its handle (R56). -/
def hostFinished (t : State) (i : Station) (j : Job) (result : JobResult) (failure : LastFailure) (data : List Byte) : State :=
  (t.withBus { t.bus with results := t.bus.results ++ [⟨j.handle, i, j.kind, result, failure, data⟩] }).raise .jobDone (some i) j.handle

/-- A state after a station's cartridge has been entered as departed, where it is authenticated (R20). -/
def enteredAsDeparted (t : State) (i : Station) : State :=
  match (t.station i).cartridge.bind accountOf with
  | none => t
  | some k => accountEntered t i k

/-- A state after a charge of `w` to a station's cartridge, whose record has figures, with what follows a charge in its order: used and the
charged total grown, each held at 4,294,967,295, USED_SATURATED at the holding's first saturation, the level band with LEVEL_BAND and
CARTRIDGE_EMPTY, the evidence OVERDRAW once per holding beyond reserve and tolerance, and the write-back need of an ACTIVE station, which
an empty latch newly set is tested for too (R120, R128, R129, R134, R136, R155). -/
def chargedWith (t : State) (i : Station) (w : Nat) (c : CartridgeRecord) (a : Account) (capacity : Nat) : State :=
  let r := t.station i
  let used := min 4294967295 (a.used + w)
  let saturates := 4294967295 ≤ a.used ∨ 4294967295 < a.used + w
  let c1 := withLevel t.part capacity used
    { c with account := some { a with used }, usedSaturated := c.usedSaturated || decide saturates }
  let record (x : CartridgeRecord) : StationRec :=
    { r with cartridge := some x, meter := { r.meter with charged := min 4294967295 (r.meter.charged + w) } }
  let charged := (t.withEvents (levelEvents t.part i capacity used c (if saturates ∧ c.usedSaturated = false
    then t.events.raise none .usedSaturated (some i) (a.used + w - 4294967295) else t.events))).setStation i (record c1)
  if c.overdrawRaised = true ∨ used - capacity ≤ r.config.swapReserve + t.part.tolerance then afterNeed charged i c1
  else
    let marked := (if c1.emptyLatch = c.emptyLatch then charged else afterNeed charged i c1).setStation i
      (record { c1 with overdrawRaised := true })
    let judged := marked.recordEvidence i .overdraw
    match (judged.station i).cartridge with
    | some c2 => afterNeed judged i c2
    | none => judged

/-- A state after a station's entry to ACTIVE with a record that has figures: no quarantine cause, the activation transfer of the whole debt
with the end of RESERVOIR_DRY where the reserve is above 0, and last ACTIVATED with the class then held, also where a check among the
transfer's quarantines the station at once (R9, R132, log entry 17). -/
def madeActive (t : State) (i : Station) (c : CartridgeRecord) (a : Account) (capacity : Nat) : State :=
  let r := t.station i
  let entered := t.setStation i
    { r with lifecycle := .active, cartridge := some { c with cause := none }, meter := { r.meter with debt := 0 } }
  let charged := chargedWith (if 0 < r.config.swapReserve then entered.endCondition (.reservoirDry i) else entered) i r.meter.debt
    { c with cause := none } a capacity
  charged.raise .activated (some i) (match (charged.station i).cartridge with
    | some c1 => trustNumber c1.trust
    | none => 0)

/-- A state after a departure is complete: the cartridge entered as departed and the station RELEASED (R20). -/
def departureDone (t : State) (i : Station) : State :=
  (enteredAsDeparted t i).setStation i { t.station i with lifecycle := .released }

/-- A state after the follow-on write-back of a job that has ended, where it carries one, is asked for (R43). -/
def followedOn (t : State) (i : Station) (j : Job) : State :=
  match j.followOn with
  | some cls => t.requestWriteBack i cls
  | none => t

/-- A state after a WRITE_USAGE job has ended with NACK, REFUSED or BUS_FAULT, the job gone already. A withdrawn job's result is discarded.
REFUSED is evidence CONFLICT; class DEPART completes the departure all the same; and WRITEBACK_FAILED is raised with the result's code, but
for a REFUSED of class WRITEBACK. The follow-on comes last (R20, R43, R44, R140). -/
def writeBackEnded (t : State) (i : Station) (j : Job) (result : JobResult) (code : Nat) : State :=
  followedOn (if j.disowned then t
    else
      let u := if result = .refused then t.recordEvidence i .conflict else t
      if j.cls = .depart then (departureDone u i).raise .writebackFailed (some i) code
      else if result = .refused then u else u.raise .writebackFailed (some i) code) i j

/-- A run of commands one after another, stopping at the first that does not answer next. -/
def runAll : List Instr → State → Host.Outcome State Fault Refusal
  | [], s => .next s
  | c :: rest, s =>
    match exec c s with
    | .next t => runAll rest t
    | .fault f => .fault f
    | .refused r => .refused r

end Sys2Proof.Safety
end

