-- ==== Sys2Proof/Certificates/Slice0/Obligations.lean ====
section
/-! DEFINITION. The statements for the provers, in the words of Safety.lean. A statement of what a command does gives the whole next state
where it reads `goesTo … (s.with…)`: every field of the state that it does not name is unchanged. -/

open Sys2Proof Sys2Proof.Machine Sys2Proof.Safety

/-! ## The machine as a whole -/

/-- The step takes the command at the front of the queue and runs it on the state with the queue's rest. With none waiting the part goes on
by itself: an ACTIVE job between its phases opens its status phase where the bus is FREE, which makes the condition OWN (R49, R52), and
otherwise nothing happens. That this is what a step on an empty queue does is the model's choice of log entry 6. -/
def Obligations.StepRunsFrontCommand : Prop :=
  ∀ s : State,
    (∀ c rest, s.pending = c :: rest → step s = exec c (s.withPending rest)) ∧
    (s.pending = [] →
      (¬ serving s ∨ s.bus.condition ≠ .free ∨ (∀ j ∈ s.bus.jobs, j.state = .active → j.phase ≠ .between) → goesTo (step s) s) ∧
      (serving s → ∀ pre j post i, running s .free pre j post → j.phase = .between → j.target = some i →
        goesTo (step s) (s.withBus { s.bus with
          jobs := pre ++ { j with phase := .status, timer := none } :: post, condition := .own,
          transaction := some ⟨s.part.busSpeed, tagRead i 36 1⟩ })))

/-- Every command of the table runs in every state and leaves the waiting commands alone. That a command whose row cannot occur in a state
runs there, without an effect, is the model's choice of log entry 9. -/
def Obligations.EveryCommandRunsAndLeavesTheQueue : Prop :=
  ∀ (c : Instr) (s : State), ∃ t, goesTo (exec c s) t ∧ t.pending = s.pending

/-- Every reply that a command forms reports the part as it stands when the reply is formed: attention pending, overrun, halted and, in
GET_EVENTS replies only, events lost; bits 4 to 7 are 0, and the overrun flag is clear afterwards (R170, R176, R179). The reply is the last
thing a command does, but for AUTHENTICATE, which answers before it acts (R18). That the replies of ADMIT, of ABORT_JOB and of CONFIG_LINK
are formed after the events those requests bring is the model's choice of log entry 18. -/
def Obligations.EveryReplyReportsThePart : Prop :=
  ∀ (c : Instr) (s t : State) (r : Reply), goesTo (exec c s) t → t.link.replies = s.link.replies ++ [r] →
    r.flags = flagBits (!(if c = .authenticate then s else t).events.entries.isEmpty) s.link.overrun (t.operating == .halted)
      (decide (c = .getEvents) && s.events.lost) ∧
    t.link.overrun = false ∧ (c = .getEvents → t.events.lost = false)

/-! ## Power, reset and the retained store (chapter 11) -/

/-- POWER_ON with RESET_N high, and RESET_N_RISE with power, start the part; without the other the part waits. Here no checkpoint is held,
so the departed table is as stored and the event queue is empty (R187). That a start-up is one step is log entry 11. -/
def Obligations.PowerAndResetStartThePart : Prop :=
  ∀ s : State,
    (s.powered = false → s.resetN = false → goesTo (exec .powerOn s) (s.withPowered true) ∧
      goesTo (exec .resetNRise s) (s.withResetN true)) ∧
    ((∀ i : Station, s.store.checkpoints[i] = none) → ∀ c : Instr,
      (c = .powerOn ∧ s.powered = false ∧ s.resetN = true) ∨ (c = .resetNRise ∧ s.powered = true ∧ s.resetN = false) →
      ∃ t, goesTo (exec c s) t ∧ StartedWith s t s.store.departed ∧ t.events.entries = [] ∧ t.events.nextSequence = 0 ∧
        t.store = s.store ∧ t.writes = [])

/-- A start-up, be it at POWER_ON, at RESET_N_RISE or when RESTART's last reply has gone out, folds every held checkpoint into the departed
table in station order: an entry with its figures and its slot's station, an entry of its serial merged in and a full table's head evicted
as any insertion does, DEPARTED_EVICTED raised in the new queue for the evicted one, and for each the table's write and then the clearing of
the slot (R147, R187, R188). That a start-up is one step is log entry 11. -/
def Obligations.StartUpFoldsCheckpoint : Prop :=
  ∀ (s : State) (c : Instr),
    (c = .powerOn ∧ s.powered = false ∧ s.resetN = true) ∨ (c = .resetNRise ∧ s.powered = true ∧ s.resetN = false) ∨
      (c = .replySent ∧ up s ∧ s.link.engine = .stopped ∧ s.link.replies.length = 1 ∧ s.writes = []) →
    ∃ t, goesTo (exec c s) t ∧ startedFrom s s.store t

/-- POWER_LOSS and RESET_N_FALL leave the retained store and the pins and nothing else: the write in progress leaves its item old or new,
whole, the writes behind it are gone, and volatile state is given up: the operating state, the standing conditions, the departed table as it
was held, the queues, the records and the settings (R186, R187). That the volatile state then stands at its start-up
values, and that a second RESET_N_FALL finds none to lose, are the model's choice of log entry 10. -/
def Obligations.PowerLossKeepsOnlyTheStore : Prop :=
  ∀ (s : State) (landed : Bool),
    (s.resetN = true → s.powered = false → goesTo (exec (.resetNFall landed) s) (s.withResetN false)) ∧
    (s.powered = true → ∀ c : Instr, c = .powerLoss landed ∨ (c = .resetNFall landed ∧ s.resetN = true) →
      ∃ t, goesTo (exec c s) t ∧
        (c = .powerLoss landed → t.powered = false ∧ t.resetN = s.resetN) ∧
        (c = .resetNFall landed → t.powered = true ∧ t.resetN = false) ∧
        t.presence = s.presence ∧ t.inkInputs = s.inkInputs ∧ t.pending = s.pending ∧ t.draws = s.draws ∧ t.writes = [] ∧
        t.store.keySlots.map (·.secret) = s.store.keySlots.map (·.secret) ∧ t.store.partId = s.store.partId ∧
        (s.writes = [] ∨ landed = false → t.store = s.store) ∧
        (∀ item b rest, s.writes = ⟨item, b⟩ :: rest → landed = true → t.store = stored s.store item) ∧
        t.operating = .operating ∧ t.standing = Vector.replicate 30 none ∧ t.departed = ⟨[], 0⟩ ∧
        t.link = HostLink.initial ∧ (∀ i, t.station i = StationRec.initial ∧ t.context i = none) ∧ t.bus = Bus.initial ∧
        t.auth.fifo = [] ∧ t.auth.computing = none ∧ t.tally = Tally.initial ∧ t.meter = MeterUnit.initial ∧
        t.part = PartConfig.initial ∧ t.events = EventQueue.initial ∧ t.attnN = true)

/-- RETAINED_STORE_WRITE_COMPLETE replaces the item of the write in progress whole and goes on to the next write; where a FORGET, a SHUTDOWN
or a RESTART waits on it, its OK reply is formed, RESTART's on the write of a departed table as well as of a checkpoint, and after RESTART's
the request engine takes no further frame (R160, R186, R189, R191). -/
def Obligations.StoreWriteReplacesItsItem : Prop :=
  ∀ (s : State) (rest : List StoreWrite) (item : StoreItem) (answers : Bool), up s → s.writes = ⟨item, answers⟩ :: rest →
    (∀ k, item ≠ .keyRevoked k) →
    let written := (s.withWrites rest).withStore (stored s.store item)
    (answers = false → goesTo (exec .retainedStoreWriteComplete s) written) ∧
    ∀ tag body, answers = true →
      (s.link.engine = .awaiting ⟨.forget, tag, body⟩ →
        goesTo (exec .retainedStoreWriteComplete s) (replied written 0x93 tag .ok [])) ∧
      (s.link.engine = .awaiting ⟨.shutdown, tag, body⟩ →
        goesTo (exec .retainedStoreWriteComplete s) (replied written 0x96 tag .ok [])) ∧
      (s.link.engine = .awaiting ⟨.restart, tag, body⟩ →
        goesTo (exec .retainedStoreWriteComplete s) (engineStopped (replied written 0x97 tag .ok [])))

/-- When the write of a revocation completes, the slot is REVOKED, its secret and every other item as they were, and then, in station order,
every ACTIVE station whose record names the slot is QUARANTINED with KEY_REVOKED, its recheck abandoned; no other station changes. The
REVOKE_KEY that waits is answered OK after that (R8, R73, R74). -/
def Obligations.RevocationReachesEveryActiveStation : Prop :=
  ∀ (s : State) (k : KeySlot) (answers : Bool) (rest : List StoreWrite), up s → s.writes = ⟨.keyRevoked k, answers⟩ :: rest →
    let revoked := ([0, 1, 2, 3, 4, 5, 6, 7] : List Station).foldl
      (fun t i => match (s.station i).cartridge with
        | some c => if (s.station i).lifecycle = .active ∧ c.identity.map (·.keyIndex) = some k.val
          then toQuarantine t i c .keyRevoked 6 else t
        | none => t)
      ((s.withWrites rest).withStore { s.store with
        keySlots := s.store.keySlots.set k { s.store.keySlots[k] with state := .revoked } })
    (answers = false → goesTo (exec .retainedStoreWriteComplete s) revoked) ∧
    (∀ tag body, answers = true → s.link.engine = .awaiting ⟨.revokeKey, tag, body⟩ →
      goesTo (exec .retainedStoreWriteComplete s) (replied revoked 0x8D tag .ok []))

/-- A key slot once REVOKED stays REVOKED through every step, whatever the command (R72, R186). -/
def Obligations.RevokedSlotStaysRevoked : Prop := ∀ s t : State, goesTo (step s) t → keepsRevoked s.store t.store

/-- SHUTDOWN enters HALTED and stops the blocks: the partial cycle, the digest unit's requests, the waiting jobs and the result table go, the
job with a byte on the bus is to be cut, the stations' timers stop. It then has the due checkpoints written in station order; its answer
waits for the last of them, and is formed at once where there is none (R189). RESTART in OPERATING does the same, but its answer waits for
every write requested before it too (R191). That an ACTIVE write job between its phases or its status polls ends at once is log entry 16,
that SHUTDOWN with nothing to write does not wait for earlier writes is log entry 39, and which reason holds for a job to be cut a second time
is the free choice of log entry 15. -/
def Obligations.ShutdownHaltsAndCheckpoints : Prop :=
  ∀ (s : State) (tag : Byte) (body : List Byte),
    let halted := ((((s.withOperating .halted).withTally { s.tally with buffer := none, cycleTimer := none, silenceTimer := false }).withAuth
      { s.auth with fifo := [], computing := none }).withBus { s.bus with
        jobs := (s.bus.jobs.filter (fun j => j.state = .active ∧ s.bus.condition = .own)).map (toBeCut .shutdown), results := [] }).withStations
      (s.stations.map (fun r => { r with seatTimer := false, removalTimer := false, ink := { r.ink with settle := false } }))
    let waits (t : State) (kind : RequestKind) := t.withLink { s.link with engine := .awaiting ⟨kind, tag, body⟩ }
    (handed s .shutdown tag body →
      (checkpointsDue s = [] → goesTo (exec .shutdown s) (replied halted 0x96 tag .ok [])) ∧
      (∀ items last, checkpointsDue s = items ++ [last] → goesTo (exec .shutdown s)
        (waits (halted.withWrites (s.writes ++ items.map (fun x => ⟨x, false⟩) ++ [⟨last, true⟩])) .shutdown))) ∧
    (handed s .restart tag body → s.operating = .operating →
      (checkpointsDue s = [] → s.writes = [] → goesTo (exec .restart s) (engineStopped (replied halted 0x97 tag .ok []))) ∧
      (checkpointsDue s = [] → ∀ earlier last, s.writes = earlier ++ [last] → goesTo (exec .restart s)
        (waits (halted.withWrites (earlier ++ [{ last with answers := true }])) .restart)) ∧
      (∀ items last, checkpointsDue s = items ++ [last] → goesTo (exec .restart s)
        (waits (halted.withWrites (s.writes ++ items.map (fun x => ⟨x, false⟩) ++ [⟨last, true⟩])) .restart)))

/-- RESTART in HALTED writes the due checkpoints again, waits for the last write of all, those requested before it among them, and changes
nothing else before its answer; with no write to wait for it is answered at once, and the request engine takes no further frame (R191 steps
2 and 3). When the last reply formed has been sent in full after RESTART's answer, a start-up begins that folds the held checkpoints, and the
frames held are dropped (R188, R191 step 4). Writes that wait at that moment, which no
run from reset leaves, complete before the store is read, and the start-up is one step: both are log entry 11. -/
def Obligations.RestartFromHaltedStartsAfresh : Prop :=
  (∀ (s : State) (tag : Byte) (body : List Byte), handed s .restart tag body → s.operating = .halted →
    let waits (writes : List StoreWrite) := (s.withWrites writes).withLink { s.link with engine := .awaiting ⟨.restart, tag, body⟩ }
    (checkpointsDue s = [] → s.writes = [] → goesTo (exec .restart s) (engineStopped (replied s 0x97 tag .ok []))) ∧
    (checkpointsDue s = [] → ∀ earlier last, s.writes = earlier ++ [last] →
      goesTo (exec .restart s) (waits (earlier ++ [{ last with answers := true }]))) ∧
    (∀ items last, checkpointsDue s = items ++ [last] →
      goesTo (exec .restart s) (waits (s.writes ++ items.map (fun x => ⟨x, false⟩) ++ [⟨last, true⟩])))) ∧
  (∀ (s : State) (r : Reply), up s → s.link.engine = .stopped → s.link.replies = [r] →
    ∃ t, goesTo (exec .replySent s) t ∧ startedFrom s (s.writes.foldl (fun m w => stored m w.item) s.store) t)

/-! ## The host link (chapter 10) -/

/-- HL_BYTE_RECEIVED: hunting, a byte other than 0xA5 is discarded and 0xA5 begins a frame; a receiver that assembles an incomplete frame
takes the byte, 0xA5 among them as data; a frame that is complete takes its place before the byte is met (R174). That a byte settles a
complete frame before it is met is log entry 21. -/
def Obligations.ReceiverAssemblesBytes : Prop :=
  ∀ (s : State) (b : Byte), up s →
    (s.link.receiver = .hunting → b ≠ 0xA5 → goesTo (exec (.hlByteReceived b) s) s) ∧
    (s.link.receiver = .hunting → b = 0xA5 →
      goesTo (exec (.hlByteReceived b) s) (s.withLink { s.link with receiver := .assembling [] })) ∧
    (s.link.receiver = .assembling [] →
      goesTo (exec (.hlByteReceived b) s) (s.withLink { s.link with receiver := .assembling [b] })) ∧
    (∀ len rest, s.link.receiver = .assembling (len :: rest) → 2 ≤ len.toNat → len.toNat ≤ 242 → rest.length ≠ len.toNat + 2 →
      goesTo (exec (.hlByteReceived b) s) (s.withLink { s.link with receiver := .assembling (len :: rest ++ [b]) })) ∧
    (∀ len rest, s.link.receiver = .assembling (len :: rest) →
      (len.toNat < 2 ∨ 242 < len.toNat ∨ rest.length = len.toNat + 2) →
      ∃ t, goesTo (exec .hlFrameComplete s) t ∧ exec (.hlByteReceived b) s = exec (.hlByteReceived b) t)

/-- HL_FRAME_COMPLETE: a LEN out of range, or LEN + 2 bytes after an LEN in range, completes a frame, judged BAD_FRAME where LEN is out of
range or the check differs. It takes a free slot at the tail; with both slots held it is discarded and the overrun flag is set. The receiver
hunts again. An incomplete frame stays as it is (R174, R176). That HL_FRAME_COMPLETE changes nothing for an incomplete frame is the model's
choice of log entry 9; that a frame ended by its LEN sets the overrun flag where both slots are held is that of log entry 36. -/
def Obligations.CompleteFrameTakesSlotOrOverruns : Prop :=
  ∀ (s : State) (len : Byte) (rest : List Byte) (f : RxFrame), up s → s.link.receiver = .assembling (len :: rest) →
    ((2 ≤ len.toNat ∧ len.toNat ≤ 242 ∧ rest.length ≠ len.toNat + 2) → goesTo (exec .hlFrameComplete s) s) ∧
    (((len.toNat < 2 ∨ 242 < len.toNat) ∧ f = .badFrame) ∨
      (∃ kind tag body lo hi, 2 ≤ len.toNat ∧ len.toNat ≤ 242 ∧ len.toNat = body.length + 2 ∧
        rest = kind :: tag :: (body ++ [lo, hi]) ∧
        f = if hi ++ lo = crc16 (len :: kind :: tag :: body) then .wellFormed kind tag body else .badFrame) →
      (s.link.slots.length < 2 → goesTo (exec .hlFrameComplete s)
        (s.withLink { s.link with receiver := .hunting, slots := s.link.slots ++ [⟨f, false⟩] })) ∧
      (2 ≤ s.link.slots.length → goesTo (exec .hlFrameComplete s)
        (s.withLink { s.link with receiver := .hunting, overrun := true })))

/-- Every request frame is read back: the bytes of the frame of any KIND, TAG and body of at most 240 bytes, received one after another by a
hunting receiver, make exactly that well-formed frame (R174, section 12.1). -/
def Obligations.RequestFrameIsReadBack : Prop :=
  ∀ (s : State) (kind tag : Byte) (body : List Byte), up s → s.link.receiver = .hunting → s.link.slots.length < 2 →
    body.length ≤ 240 →
    goesTo (runAll ((requestFrameBytes kind tag body).map .hlByteReceived ++ [.hlFrameComplete]) s)
      (s.withLink { s.link with slots := s.link.slots ++ [⟨.wellFormed kind tag body, false⟩] })

/-- GAP_TIMER_EXPIRY and LINE_ERROR: a partial frame is discarded without a reply, a slot or an overrun, and the receiver hunts; hunting,
nothing changes (R175). That a gap timer's expiry while hunting changes nothing is the model's choice of log entry 9. -/
def Obligations.PartialFrameIsDiscarded : Prop :=
  ∀ (s : State) (c : Instr), up s → c = .gapTimerExpiry ∨ c = .lineError →
    (s.link.receiver = .hunting → goesTo (exec c s) s) ∧
    (s.link.receiver = .assembling [] → goesTo (exec c s) (s.withLink { s.link with receiver := .hunting })) ∧
    (∀ len rest, s.link.receiver = .assembling (len :: rest) → 2 ≤ len.toNat → len.toNat ≤ 242 → rest.length ≠ len.toNat + 2 →
      goesTo (exec c s) (s.withLink { s.link with receiver := .hunting }))

/-- TAKE_REQUEST takes the oldest frame not yet taken and judges it: BAD_FRAME, UNKNOWN_KIND, BAD_LENGTH, BAD_STATION and, in HALTED, HALTED
are answered at once, in that order; any other frame is handed to its owner. Where the engine is not ready, or no frame waits, nothing
happens (R177). That nothing happens then is the model's choice of log entry 9. -/
def Obligations.RequestsAreJudgedInOrder : Prop :=
  ∀ (s : State) (taken waiting : List RxSlot) (f : RxFrame), up s → (∀ x ∈ taken, x.taken = true) →
    (s.link.engine ≠ .ready ∨ s.link.slots = taken → goesTo (exec .takeRequest s) s) ∧
    (s.link.engine = .ready → s.link.slots = taken ++ ⟨f, false⟩ :: waiting →
      let held := s.withLink { s.link with slots := taken ++ ⟨f, true⟩ :: waiting }
      (f = .badFrame → goesTo (exec .takeRequest s) (replied held 0x80 0 .badFrame [])) ∧
      ∀ kind tag body, f = .wellFormed kind tag body →
        (kind = 0 ∨ 24 ≤ kind.toNat → goesTo (exec .takeRequest s) (replied held (kind ||| 0x80) tag .unknownKind [])) ∧
        ∀ k : RequestKind, requestCode k = kind.toNat →
          (bodyLengthOk k body.length = false → goesTo (exec .takeRequest s) (replied held (kind ||| 0x80) tag .badLength [])) ∧
          (bodyLengthOk k body.length = true →
            (∀ b rest, namesStation k = true → body = b :: rest → 8 ≤ b.toNat →
              goesTo (exec .takeRequest s) (replied held (kind ||| 0x80) tag .badStation [])) ∧
            (namesStation k = false ∨ (∃ b rest, body = b :: rest ∧ b.toNat < 8) →
              (s.operating = .halted → k ≠ .identify → k ≠ .getStatus → k ≠ .getEvents → k ≠ .restart →
                goesTo (exec .takeRequest s) (replied held (kind ||| 0x80) tag .halted [])) ∧
              (s.operating = .operating ∨ k = .identify ∨ k = .getStatus ∨ k = .getEvents ∨ k = .restart →
                goesTo (exec .takeRequest s) (held.withLink { held.link with engine := .handed ⟨k, tag, body⟩ })))))

/-- REPLY_SENT: the oldest reply has left the transmitter and its frame's slot, the oldest taken one, is free; with no reply to send nothing
happens (R176, R178). That nothing happens then is the model's choice of log entry 9. -/
def Obligations.SentReplyFreesItsSlot : Prop :=
  ∀ (s : State) (r : Reply) (replies : List Reply) (x : RxSlot) (slots : List RxSlot), up s →
    (s.link.replies = [] → goesTo (exec .replySent s) s) ∧
    (s.link.replies = r :: replies → s.link.slots = x :: slots → x.taken = true →
      (s.link.engine ≠ .stopped ∨ replies ≠ []) →
      goesTo (exec .replySent s) (s.withLink { s.link with replies, slots }))

/-! ## Requests that name no station -/

/-- IDENTIFY answers the part code 2608, revision 1, the part ID and the four key slot states. GET_STATUS answers the operating state, the
tally source, the aligner state, the bus condition, the standing conditions in bits 0 to 29 of a 32-bit field, and the numbers of jobs,
host jobs and events. Neither changes anything else (R181, R182, section 12.4). -/
def Obligations.IdentifyAndGetStatusReportThePart : Prop :=
  ∀ (s : State) (tag : Byte) (body : List Byte),
    (handed s .identify tag body →
      goesTo (exec .identify s) (replied s 0x81 tag .ok
        ([0x30, 0x0A, 1] ++ put 4 s.store.partId.toNat ++
          (s.store.keySlots.toList.flatMap (fun k => put 1 (match k.state with | .empty => 0 | .live => 1 | .revoked => 2)))))) ∧
    (handed s .getStatus tag body →
      ∃ conditions : BitVec 32, (∀ k : Fin 30, conditions.getLsbD k = (s.standing[k]).isSome) ∧ conditions.getLsbD 30 = false ∧
        conditions.getLsbD 31 = false ∧
        goesTo (exec .getStatus s) (replied s 0x82 tag .ok
          (put 1 (match s.operating with | .operating => 0 | .halted => 1)
            ++ put 1 (match s.tally.source with | .link => 0 | .host => 1)
            ++ put 1 (match s.tally.aligner with | .off => 0 | .hunt => 1 | .candidate _ => 2 | .confirm _ => 3 | .sync _ _ => 4)
            ++ put 1 (match s.bus.condition with | .free => 0 | .own => 1 | .foreign => 2 | .recovery => 3 | .fault => 4)
            ++ put 4 conditions.toNat
            ++ put 1 s.bus.jobs.length
            ++ put 1 ((s.bus.jobs.filter (fun j => j.kind = .hostRead ∨ j.kind = .hostWrite)).length + s.bus.results.length)
            ++ put 1 s.events.entries.length)))

/-- CONFIG_PART stores its eleven values, each clamped, the thresholds and the permilles each against the one stored before, and answers with
the values as stored (R183). Where the permilles change, the level bands of all stations are computed in station order before the answer: a
changed band sets its flag and raises LEVEL_BAND, and a first arrival at EMPTY sets the latch, raises CARTRIDGE_EMPTY and is tested for a
write-back need (R128 to R130, R136, R184). Where they do not change, nothing else changes. -/
def Obligations.ConfigPartStoresClampedValues : Prop :=
  ∀ (s : State) (tag : Byte) (body : List Byte) (p : PartConfig), handed s .configPart tag body →
    p.t1 = within 0 147 (le body 0 1) → p.t2 = within (p.t1 + 1) 148 (le body 1 1) →
    p.t3 = within (p.t2 + 1) 149 (le body 2 1) → p.t4 = within (p.t3 + 1) 150 (le body 3 1) →
    p.lowPermille = within 2 500 (le body 4 2) → p.criticalPermille = within 1 (p.lowPermille - 1) (le body 6 2) →
    p.tolerance = within 0 10000000 (le body 8 4) → p.quantum = within 10000 10000000 (le body 12 4) →
    p.policy = (if le body 16 1 = 1 then .quarantine else .warn) → p.pollSpacing = within 1 255 (le body 17 1) →
    p.busSpeed = (if le body 18 1 = 1 then .khz400 else .khz100) →
    goesTo (exec .configPart s) (replied
      (if s.part.lowPermille = p.lowPermille ∧ s.part.criticalPermille = p.criticalPermille then s.withPart p
        else ([0, 1, 2, 3, 4, 5, 6, 7] : List Station).foldl bandComputed (s.withPart p)) 0x83 tag .ok
      (put 1 p.t1 ++ put 1 p.t2 ++ put 1 p.t3 ++ put 1 p.t4 ++ put 2 p.lowPermille ++ put 2 p.criticalPermille
        ++ put 4 p.tolerance ++ put 4 p.quantum ++ put 1 (if p.policy = .quarantine then 1 else 0) ++ put 1 p.pollSpacing
        ++ put 1 (if p.busSpeed = .khz400 then 1 else 0)))

/-- REVOKE_KEY: a slot above 3 or an EMPTY slot is REFUSED and a REVOKED slot answered OK, with no change; for a LIVE slot the state REVOKED
goes to the retained store, and the request waits for that write (R73). -/
def Obligations.RevokeKeyActsBySlotState : Prop :=
  ∀ (s : State) (tag b : Byte) (rest : List Byte), handed s .revokeKey tag (b :: rest) →
    (4 ≤ b.toNat → goesTo (exec .revokeKey s) (replied s 0x8D tag .refused [])) ∧
    ∀ k : KeySlot, b.toNat = k.val →
      ((s.store.keySlots[k]).state = .empty → goesTo (exec .revokeKey s) (replied s 0x8D tag .refused [])) ∧
      ((s.store.keySlots[k]).state = .revoked → goesTo (exec .revokeKey s) (replied s 0x8D tag .ok [])) ∧
      ((s.store.keySlots[k]).state = .live → goesTo (exec .revokeKey s)
        ((s.withWrites (s.writes ++ [⟨.keyRevoked k, true⟩])).withLink
          { s.link with engine := .awaiting ⟨.revokeKey, tag, b :: rest⟩ }))

/-- CONFIG_LINK stores its clamped values and answers with them. LINK to HOST discards the partial cycle, turns the aligner OFF, stops both
timers and ends LINK_LOST and LINK_SILENT; HOST to LINK hunts afresh with both timers started; a LINK that stays and gets another period
or threshold restarts alignment; otherwise only the values change. A width that goes from 10 to 8 then sets a counter above 255 to 255 and
raises LINK_ERRORS for it, with value 1 for MARKER_ERRORS and then 2 for CHECK_ERRORS (R100 to R103). That MARKER_ERRORS comes first, and that
a counter at exactly 255 raises nothing, are log entry 30; that the reply is formed after these raises is log entry 18. -/
def Obligations.ConfigLinkChangesSourceAndAlignment : Prop :=
  ∀ (s : State) (tag : Byte) (body : List Byte) (source : TallySource) (c : LinkConfig), handed s .configLink tag body →
    source = (if le body 0 1 = 1 then .host else .link) → c.nominalPeriod = within 100 65535 (le body 1 2) →
    c.lossThreshold = within 3 4 (le body 3 1) → c.holdLimit = le body 4 1 →
    c.counterWidth = (if le body 5 1 < 9 then 8 else 10) →
    let narrowed (t : State) : State :=
      let x := if 255 < s.tally.markerErrors
        then (t.withTally { t.tally with markerErrors := 255 }).raiseCondition .linkErrors 1 else t
      if 255 < s.tally.checkErrors then (x.withTally { x.tally with checkErrors := 255 }).raiseCondition .linkErrors 2 else x
    let done (t : State) := goesTo (exec .configLink s) (replied
      (if s.tally.config.counterWidth = 10 ∧ c.counterWidth = 8 then narrowed t else t) 0x8E tag .ok
      (put 1 (if source = .host then 1 else 0) ++ put 2 c.nominalPeriod ++ put 1 c.lossThreshold ++ put 1 c.holdLimit
        ++ put 1 c.counterWidth))
    (s.tally.source = .link → source = .host →
      done (((s.withTally { s.tally with config := c, source := .host, aligner := .off, buffer := none, cycleTimer := none,
                                         silenceTimer := false, stream := [] }).endCondition .linkLost).endCondition .linkSilent)) ∧
    (s.tally.source = .host → source = .link →
      done (s.withTally { s.tally with config := c, source := .link, aligner := .hunt, buffer := none, badRun := 0, checkRun := 0,
                                       cycleTimer := some (c.nominalPeriod * 3 / 2), silenceTimer := true, stream := [] })) ∧
    (s.tally.source = .link → source = .link →
      (c.nominalPeriod ≠ s.tally.config.nominalPeriod ∨ c.lossThreshold ≠ s.tally.config.lossThreshold) →
      done (s.withTally { s.tally with config := c, aligner := .hunt, buffer := none, badRun := 0, checkRun := 0,
                                       cycleTimer := some (c.nominalPeriod * 3 / 2), stream := [] })) ∧
    (s.tally.source = source → (source = .host ∨
        (c.nominalPeriod = s.tally.config.nominalPeriod ∧ c.lossThreshold = s.tally.config.lossThreshold)) →
      done (s.withTally { s.tally with config := c }))

/-- READ_LINK answers the receiver as it stands; with its clear option it then sets both counters to 0 and ends LINK_ERRORS, and without it
nothing changes (R105, section 12.4). That bits 4 to 7 of byte 15, of which the layout says nothing, are 0 is the model's choice of log entry
40. -/
def Obligations.ReadLinkReportsThenClears : Prop :=
  ∀ (s : State) (tag b : Byte) (rest : List Byte), handed s .readLink tag (b :: rest) →
    let t := s.tally
    let body : List Byte :=
      put 1 (match t.source with | .link => 0 | .host => 1)
      ++ put 1 (match t.aligner with | .off => 0 | .hunt => 1 | .candidate _ => 2 | .confirm _ => 3 | .sync _ _ => 4)
      ++ put 1 (match t.aligner with | .sync expected _ => expected.val | _ => 255)
      ++ put 1 (match t.aligner, t.buffer with | .sync _ _, some x => x.positions | _, _ => 255)
      ++ put 2 t.markerErrors ++ put 2 t.checkErrors ++ put 1 t.badRun ++ put 1 t.checkRun ++ put 1 t.estimateRun
      ++ put 4 t.estimatedTotal
      ++ put 1 ((s.standing[24]).isSome.toNat + 2 * (s.standing[28]).isSome.toNat + 4 * (s.standing[25]).isSome.toNat
        + 8 * (s.standing[29]).isSome.toNat)
      ++ put 2 t.config.nominalPeriod ++ put 1 t.config.lossThreshold ++ put 1 t.config.holdLimit ++ put 1 t.config.counterWidth
    (b.getLsbD 0 = false → goesTo (exec .readLink s) (replied s 0x8F tag .ok body)) ∧
    (b.getLsbD 0 = true → goesTo (exec .readLink s)
      (replied ((s.withTally { t with markerErrors := 0, checkErrors := 0 }).endCondition .linkErrors) 0x8F tag .ok body))

/-- TALLY is refused with WRONG_STATE while the source is LINK; under HOST it is an actual commit of its counts, each held to 8184, and its
temperatures: the cycle goes to the pending store where that has a place, becomes the last-good copy, sets the estimate run to 0 and
ends METER_GAP (R104). -/
def Obligations.TallyCommitsUnderHost : Prop :=
  ∀ (s : State) (tag : Byte) (body : List Byte) (cycle : CommittedCycle) (temps : Vector TempReading 8), handed s .tally tag body →
    cycle.temps = some temps →
    (∀ i : Station, cycle.counts[i] = ⟨min 8184 (le body (9 * i.val) 2), min 8184 (le body (9 * i.val + 2) 2),
        min 8184 (le body (9 * i.val + 4) 2), min 8184 (le body (9 * i.val + 6) 2)⟩ ∧
      temps[i] = (if le body (9 * i.val + 8) 1 = 255 then .sensorFault else .degrees (min 200 (le body (9 * i.val + 8) 1)))) →
    (s.tally.source = .link → goesTo (exec .tally s) (replied s 0x90 tag .wrongState [])) ∧
    (s.tally.source = .host → goesTo (exec .tally s)
      (replied (((s.withMeter { s.meter with
            cycles := if s.meter.cycles.length < 2 then s.meter.cycles ++ [cycle] else s.meter.cycles }).withTally
          { s.tally with lastGood := cycle.counts, estimateRun := 0, cycleTimer := none }).endCondition .meterGap) 0x90 tag .ok []))

/-- LIST_DEPARTED answers the number of entries, the next departure sequence, the start index and up to four entries from it, each with all
its fields, and changes nothing else. FORGET, in mode ALL, and in mode ONE with the serial in the table, has the changed table written to
the retained store and waits for that write, the counter as it was; a serial that is not there is answered NOT_FOUND with no change (R159,
R160, section 12.6). That bits 6 and 7 of an evidence set's byte, which no kind names, are 0 is the model's choice of log entry 40. -/
def Obligations.DepartedTableIsListedAndForgotten : Prop :=
  ∀ (s : State) (tag b : Byte) (rest : List Byte),
    (handed s .listDeparted tag (b :: rest) →
      let shown := (s.departed.entries.drop b.toNat).take 4
      goesTo (exec .listDeparted s) (replied s 0x92 tag .ok
        (put 1 s.departed.entries.length ++ put 4 s.departed.nextSequence ++ [b] ++ put 1 shown.length ++
          (shown.map (fun e => put 8 e.serial.toNat ++ put 2 e.inkType ++ put 4 e.capacity ++ put 4 e.used ++ put 4 e.lastWritten
            ++ put 1 (match e.cls with | .genuine => 1 | .refilled => 2)
            ++ put 1 (e.evidence.rollback.toNat + 2 * e.evidence.emptyReturn.toNat + 4 * e.evidence.marked.toNat
                + 8 * e.evidence.overdraw.toNat + 16 * e.evidence.senseRise.toNat + 32 * e.evidence.conflict.toNat)
            ++ put 4 e.sequence ++ put 1 e.station.val)).flatten))) ∧
    (handed s .forget tag (b :: rest) →
      let removed (t : DepartedTable) :=
        goesTo (exec .forget s) (((s.withDeparted t).withWrites (s.writes ++ [⟨.departed t, true⟩])).withLink
          { s.link with engine := .awaiting ⟨.forget, tag, b :: rest⟩ })
      (b = 1 → removed { s.departed with entries := [] }) ∧
      (b ≠ 1 → ∀ x : Serial, x.toNat = le rest 0 8 →
        ((∃ e ∈ s.departed.entries, e.serial = x) →
          removed { s.departed with entries := s.departed.entries.filter (fun e => e.serial ≠ x) }) ∧
        ((∀ e ∈ s.departed.entries, e.serial ≠ x) → goesTo (exec .forget s) (replied s 0x93 tag .notFound []))))

/-- GET_EVENTS takes up to n entries out of the queue, ALERT before WARNING before NOTICE and oldest first in each, n held to 1 to 8; the rest
keep their order. The reply carries them with all their fields and the number left, reports the queue after the removal and the
events-lost flag, and the flag is then clear (R169, R170). -/
def Obligations.GetEventsTakesMostUrgentFirst : Prop :=
  ∀ (s : State) (tag b : Byte) (rest : List Byte), handed s .getEvents tag (b :: rest) → pairsDistinct s.events.entries →
    let n := within 1 8 b.toNat
    let rank (v : Severity) := s.events.entries.filter (fun e => e.kind.severity = v)
    let taken := (rank .alert ++ rank .warning ++ rank .notice).take n
    let left := s.events.entries.filter (fun e => e ∉ taken)
    goesTo (exec .getEvents s)
      ((repliedWith s.events.lost (s.withEvents { s.events with entries := left }) 0x94 tag .ok
        (put 1 left.length ++ put 1 taken.length ++
          (taken.map (fun e => put 1 (eventCode e.kind) ++ put 1 (match e.place with | some i => i.val | none => 15)
            ++ put 1 (match e.kind.severity with | .alert => 1 | .warning => 2 | .notice => 3)
            ++ put 2 e.sequence.toNat ++ put 1 e.count ++ put 4 e.value)).flatten)).withEvents
        { s.events with entries := left, lost := false })

/-- SET_MASK replaces the mask whole by the settings of codes 1 to 25, the others stored as reported, and answers with it; entries, arm flags
and the events-lost flag stay (R168, R195). -/
def Obligations.SetMaskReplacesTheMask : Prop :=
  ∀ (s : State) (tag b0 b1 b2 b3 : Byte), handed s .setMask tag [b0, b1, b2, b3] →
    goesTo (exec .setMask s)
      (replied (s.withEvents { s.events with mask := (b3 &&& 3) ++ b2 ++ b1 ++ (b0 &&& 0xFE) }) 0x95 tag .ok
        [b0 &&& 0xFE, b1, b2, b3 &&& 3])

/-- How a raise reaches the queue: a masked kind and a disarmed condition are given up; a pair that has an entry is merged; otherwise a new
entry joins the tail of a queue with room; in a full queue the oldest entry of the lowest severity gives way where that severity is not
above the raise's, and the raise is given up where it is, and either way the events-lost flag is set (R165, R166). An event is raised on
the queue alone. A condition that is raised stands with its raise's value, whatever the queue does; one that is ended stands no more and
has its arm flag armed, the entries as they were, and ending one that does not stand changes nothing; each kind of condition has its event,
its station and its number (R163, R167, R182). That a disarmed flag gives up a raise also against R163 and R100 is log entry 32; that the
owner's state and the queue's flag change together is log entry 35. -/
def Obligations.RaisesReachTheQueue : Prop :=
  ∀ (q : EventQueue) (arm : Option Condition) (k : EventKind) (p : Place) (v : Nat),
    let after (x : EventQueue) : EventQueue := match arm with
      | some c => { x with armed := x.armed.set c.number false }
      | none => x
    let entry : EventEntry := ⟨k, p, q.nextSequence, 1, v⟩
    (q.mask.getLsbD (eventCode k) = true ∨ (∃ c, arm = some c ∧ q.armed[c.number] = false) → q.raise arm k p v = q) ∧
    (q.mask.getLsbD (eventCode k) = false → (∀ c, arm = some c → q.armed[c.number] = true) →
      (∀ pre e post, q.entries = pre ++ e :: post → e.kind = k → e.place = p →
        (∀ x ∈ pre ++ post, ¬ (x.kind = k ∧ x.place = p)) →
        q.raise arm k p v = after { q with entries := pre ++ { e with value := v, count := min 255 (e.count + 1) } :: post }) ∧
      ((∀ x ∈ q.entries, ¬ (x.kind = k ∧ x.place = p)) →
        (q.entries.length < 32 →
          q.raise arm k p v = after { q with entries := q.entries ++ [entry], nextSequence := q.nextSequence + 1 }) ∧
        (∀ pre e post, q.entries = pre ++ e :: post → 32 ≤ q.entries.length →
          (∀ x ∈ pre, severityCode x.kind.severity < severityCode e.kind.severity) →
          (∀ x ∈ post, severityCode x.kind.severity ≤ severityCode e.kind.severity) →
          (severityCode k.severity ≤ severityCode e.kind.severity →
            q.raise arm k p v =
              after { q with entries := pre ++ post ++ [entry], nextSequence := q.nextSequence + 1, lost := true }) ∧
          (severityCode e.kind.severity < severityCode k.severity → q.raise arm k p v = { q with lost := true })))) ∧
    ∀ (s : State) (c : Condition),
      s.raise k p v = s.withEvents (s.events.raise none k p v) ∧
      s.raiseCondition c v =
        (s.withStanding (s.standing.set c.number (some v))).withEvents (s.events.raise (some c) c.kind c.place v) ∧
      (s.standing[c.number] = none → s.endCondition c = s) ∧
      (s.standing[c.number] ≠ none → s.endCondition c =
        (s.withStanding (s.standing.set c.number none)).withEvents { s.events with armed := s.events.armed.set c.number true }) ∧
      (c.kind, c.place, c.number.val) = (match c with
        | .reservoirDry i => (.reservoirDry, some i, i.val)
        | .tempFault i => (.tempFault, some i, 8 + i.val)
        | .uncalibrated i => (.uncalibrated, some i, 16 + i.val)
        | .linkLost => (.linkLost, none, 24)
        | .meterGap => (.meterGap, none, 25)
        | .busFault => (.busFault, none, 26)
        | .busBlocked => (.busBlocked, none, 27)
        | .linkSilent => (.linkSilent, none, 28)
        | .linkErrors => (.linkErrors, none, 29))

/-! ## Requests that name a station (chapters 1, 3, 4 and 6) -/

/-- GET_STATION answers in every lifecycle state with the 126 bytes of section 12.5, in their order: the station, its lifecycle state, the
flags of the debouncers and of the context, the context's step, attempt and last ending, the presence bits, the cartridge record's fields,
the metering fields, the configuration and the volume table. An absent field is 0, an absent carried class and an absent temperature 255.
It then clears the two band-changed flags and changes nothing else (R25, R194). That bits 6 and 7 of bytes 3 and 26, bits 2 to 7 of byte 29
and bits 4 to 7 of byte 90, which the layout neither names nor marks reserved, are 0 is the model's choice of log entry 40. -/
def Obligations.GetStationReportsThenClearsFlags : Prop :=
  ∀ (s : State) (i : Station) (tag n : Byte) (rest : List Byte), handed s .getStation tag (n :: rest) → n.toNat = i.val →
    let r := s.station i
    let flag (b : Bool) (k : Nat) : Nat := if b then 2 ^ k else 0
    let trust : TrustClass → Nat := fun | .pending => 0 | .genuine => 1 | .refilled => 2 | .unverified => 3
    let context : List Byte := match s.context i with
      | none => put 1 0
      | some x => put 1 ((match x.step with | .read => 0 | .challenge => 1 | .response => 2 | .verify => 3) + 4 * x.attempt
          + 16 * (match x.lastEnding with | none => 0 | some .noAnswer => 1 | some .mismatch => 2))
    let record : List Byte := match r.cartridge with
      | none => put 21 0 ++ put 1 255 ++ put 20 0
      | some c =>
        put 2 (1 + flag c.identity.isSome 1 + flag c.capacity.isSome 2 + flag c.account.isSome 3 + flag c.origin.isSome 4
          + flag c.cause.isSome 5 + flag c.band.isSome 6)
        ++ (match c.identity with
          | none => put 10 0
          | some id => put 8 id.serial.toNat ++ put 2 id.inkType)
        ++ put 4 (c.capacity.getD 0)
        ++ (match c.identity with
          | none => put 2 0
          | some id => put 1 id.keyIndex ++ put 1 id.fillGeneration)
        ++ put 1 (trust c.trust)
        ++ put 1 (match c.cause with
          | none => 0 | some .noTag => 1 | some .malformed => 2 | some .wrongInk => 3 | some .duplicate => 4 | some .keyAbsent => 5
          | some .keyRevoked => 6 | some .noResponse => 7 | some .badResponse => 8 | some .refill => 9)
        ++ (match c.origin with
          | none => put 1 0 ++ put 1 255
          | some .new => put 1 0 ++ put 1 255
          | some (.restored .genuine) => put 1 1 ++ put 1 1
          | some (.restored .refilled) => put 1 1 ++ put 1 2)
        ++ put 1 (flag c.evidence.rollback 0 + flag c.evidence.emptyReturn 1 + flag c.evidence.marked 2 + flag c.evidence.overdraw 3
          + flag c.evidence.senseRise 4 + flag c.evidence.conflict 5)
        ++ put 1 (flag c.authenticated 0 + flag c.emptyLatch 1 + flag c.refillMark 2 + flag c.bandChanged 3 + flag c.overdrawRaised 4
          + flag c.emptyRaised 5 + flag c.usedSaturated 6)
        ++ put 1 (match c.band with | none => 0 | some b => levelNumber b)
        ++ (match c.account with
          | none => put 1 0
          | some a => put 1 (flag a.baseFlags.emptyLatch 0 + flag a.baseFlags.refillMark 1))
        ++ (match c.identity with
          | none => put 4 0
          | some id => put 4 id.tagUsed)
        ++ (match c.account with
          | none => put 12 0
          | some a => put 4 a.used ++ put 4 a.lastWritten ++ put 4 a.baseUsed)
    let m := r.meter
    let metering : List Byte := put 2 m.fraction ++ put 4 m.debt ++ put 4 m.dryOverflow ++ put 4 m.charged ++ put 4 m.converted
      ++ put 6 m.lifetime.small ++ put 6 m.lifetime.medium ++ put 6 m.lifetime.large ++ put 6 m.lifetime.service
      ++ put 1 (m.lastTemp.getD 255) ++ put 1 m.band.val
      ++ put 1 (flag m.bandChanged 0 + flag m.tempFault 1 + flag m.clamped 2 + flag (!r.volumes.valid) 3) ++ put 1 0
    let settings : List Byte := put 2 r.config.expectedInk ++ put 4 r.config.defaultCapacity ++ put 4 r.config.swapReserve
      ++ put 4 r.config.cycleCeiling ++ put 1 r.config.inkSenseEnable.toNat ++ put 1 0
      ++ put 2 r.volumes.volumes.small ++ put 2 r.volumes.volumes.medium ++ put 2 r.volumes.volumes.large
      ++ put 2 r.volumes.volumes.service ++ put 2 r.volumes.factors[0] ++ put 2 r.volumes.factors[1] ++ put 2 r.volumes.factors[2]
      ++ put 2 r.volumes.factors[3] ++ put 2 r.volumes.factors[4]
    let body : List Byte := put 1 i.val
      ++ put 1 (match r.lifecycle with
        | .vacant => 0 | .seated => 1 | .identifying => 2 | .authenticating => 3 | .active => 4 | .quarantined => 5
        | .departing => 6 | .released => 7)
      ++ put 1 (flag (decide (r.lifecycle ≠ .vacant ∧ r.lifecycle ≠ .seated)) 0 + flag r.removalTimer 1
        + flag r.ink.reading.isSome 2 + flag (decide (r.ink.reading = some true)) 3 + flag r.ink.baseline.isSome 4
        + flag (decide (r.ink.baseline = some true)) 5 + flag (s.context i).isSome 6 + flag ((s.context i).any (·.recheck)) 7)
      ++ context ++ record ++ metering ++ settings
    body.length = 126 ∧
    goesTo (exec .getStation s)
      (replied (s.setStation i { r with
        cartridge := r.cartridge.map (fun c => { c with bandChanged := false }), meter := { r.meter with bandChanged := false } })
        0x84 tag .ok body)

/-- CONFIG_STATION stores its five clamped values and answers with them. A reserve below the debt moves the excess to dry overflow and raises
RESERVOIR_DRY, one above it ends RESERVOIR_DRY; turning the ink sense on starts the debouncer at the input's level, turning it off
stops it, and an unchanged enable changes nothing (R26, R133, R156). -/
def Obligations.ConfigStationStoresClampedValues : Prop :=
  ∀ (s : State) (i : Station) (tag b : Byte) (rest : List Byte) (c : StationConfig) (ink : InkSense),
    handed s .configStation tag (b :: rest) → b.toNat = i.val →
    c.expectedInk = le rest 0 2 → c.defaultCapacity = within 1000000 2000000000 (le rest 2 4) →
    c.swapReserve = within 0 50000000 (le rest 6 4) → c.cycleCeiling = within 1 201080880 (le rest 10 4) →
    c.inkSenseEnable = decide (le rest 14 1 ≠ 0) →
    (c.inkSenseEnable = (s.station i).config.inkSenseEnable → ink = (s.station i).ink) →
    (c.inkSenseEnable = true → (s.station i).config.inkSenseEnable = false →
      ink = { candidate := s.inkInputs[i], settle := true, reading := none, baseline := (s.station i).ink.baseline }) →
    (c.inkSenseEnable = false → (s.station i).config.inkSenseEnable = true →
      ink = { candidate := false, settle := false, reading := none, baseline := none }) →
    let r := s.station i
    let body := [b] ++ put 2 c.expectedInk ++ put 4 c.defaultCapacity ++ put 4 c.swapReserve ++ put 4 c.cycleCeiling
      ++ put 1 c.inkSenseEnable.toNat
    let stored := s.setStation i { r with config := c, ink }
    (c.swapReserve < r.meter.debt → ∀ dry, dry = min 4294967295 (r.meter.dryOverflow + (r.meter.debt - c.swapReserve)) →
      goesTo (exec .configStation s) (replied ((s.setStation i { r with
        config := c, ink, meter := { r.meter with debt := c.swapReserve, dryOverflow := dry } }).raiseCondition
          (.reservoirDry i) dry) 0x85 tag .ok body)) ∧
    (c.swapReserve = r.meter.debt → goesTo (exec .configStation s) (replied stored 0x85 tag .ok body)) ∧
    (r.meter.debt < c.swapReserve →
      goesTo (exec .configStation s) (replied (stored.endCondition (.reservoirDry i)) 0x85 tag .ok body))

/-- SET_VOLUMES stores its nine clamped values, makes the table valid, ends UNCALIBRATED and answers with the values; nothing else changes
(R123). -/
def Obligations.SetVolumesMakesTableValid : Prop :=
  ∀ (s : State) (i : Station) (tag b : Byte) (rest : List Byte) (v : VolumeTable), handed s .setVolumes tag (b :: rest) →
    b.toNat = i.val → v.valid = true →
    v.volumes = ⟨within 0 4095 (le rest 0 2), within 0 4095 (le rest 2 2), within 0 4095 (le rest 4 2), within 0 4095 (le rest 6 2)⟩ →
    (∀ k : Fin 5, v.factors[k] = within 128 384 (le rest (8 + 2 * k.val) 2)) →
    goesTo (exec .setVolumes s)
      (replied ((s.setStation i { s.station i with volumes := v }).endCondition (.uncalibrated i)) 0x91 tag .ok
        ([b] ++ put 2 v.volumes.small ++ put 2 v.volumes.medium ++ put 2 v.volumes.large ++ put 2 v.volumes.service
          ++ put 2 v.factors[0] ++ put 2 v.factors[1] ++ put 2 v.factors[2] ++ put 2 v.factors[3] ++ put 2 v.factors[4]))

/-- RELEASE: in ACTIVE with a trusted class, and in QUARANTINED with an authenticated cartridge, the station goes to DEPARTING and a
write-back of class DEPART is asked for; otherwise in those two states it goes to RELEASED; the cause goes, the rest of the record
stays. A recheck that runs is abandoned first: its AUTH job leaves the queue or runs on with its result to be discarded, and its VERIFY
request is withdrawn (R8, R44, R69). In any other state it is WRONG_STATE with no change (R19, R24). -/
def Obligations.ReleaseSendsTheCartridgeAway : Prop :=
  ∀ (s : State) (i : Station) (tag b : Byte) (rest : List Byte), handed s .release tag (b :: rest) → b.toNat = i.val →
    ((s.station i).lifecycle ≠ .active → (s.station i).lifecycle ≠ .quarantined →
      goesTo (exec .release s) (replied s 0x86 tag .wrongState [])) ∧
    ∀ c : CartridgeRecord, (s.station i).cartridge = some c →
      let away (l : Lifecycle) :=
        (withoutContext s i).setStation i { s.station i with lifecycle := l, cartridge := some { c with cause := none } }
      (((s.station i).lifecycle = .active ∧ (c.trust = .genuine ∨ c.trust = .refilled)) ∨
        ((s.station i).lifecycle = .quarantined ∧ c.authenticated = true) →
        goesTo (exec .release s) (replied ((away .departing).requestWriteBack i .depart) 0x86 tag .ok [])) ∧
      (((s.station i).lifecycle = .active ∧ (c.trust = .unverified ∨ c.trust = .pending)) ∨
        ((s.station i).lifecycle = .quarantined ∧ c.authenticated = false) →
        goesTo (exec .release s) (replied (away .released) 0x86 tag .ok []))

/-- A write-back request: without a WRITE_USAGE job of the station a new one joins the tail under the next free handle; a QUEUED one takes
the class DEPART where that is asked for; one that has started takes the follow-on mark, DEPART over WRITEBACK (R41, R43). -/
def Obligations.WriteBackRequestsMerge : Prop :=
  ∀ (s : State) (i : Station) (cls : JobClass), cls = .writeBack ∨ cls = .depart →
    ((∀ j ∈ s.bus.jobs, ¬ (j.kind = .writeUsage ∧ j.target = some i)) → ∀ h : Nat, nextFree s h →
      ∃ j, s.requestWriteBack i cls = s.withBus { s.bus with jobs := s.bus.jobs ++ [j], lastHandle := h } ∧
        j.handle = h ∧ j.target = some i ∧ j.kind = .writeUsage ∧ j.cls = cls ∧ j.state = .queued ∧ j.attempts = 3 ∧ j.polls = 0 ∧
        j.payload = none ∧ j.lastFailure = .none ∧ j.followOn = none ∧ j.timer = none) ∧
    (∀ pre j post, s.bus.jobs = pre ++ j :: post → j.kind = .writeUsage → j.target = some i →
      (∀ k ∈ pre ++ post, ¬ (k.kind = .writeUsage ∧ k.target = some i)) →
      s.requestWriteBack i cls = s.withBus { s.bus with
        jobs := pre ++ (if j.state = .queued then { j with cls := if cls = .depart then .depart else j.cls }
          else { j with followOn := some (if j.followOn = some .depart then .depart else cls) }) :: post })

/-- AUTHENTICATE: an ACTIVE station of a trusted class without a context starts a recheck and stays as it is; in QUARANTINED and RELEASED a
new holding begins in IDENTIFYING, with a fresh record, a context at READ and a READ_ID of class AUTH queued, and the ink-sense baseline
kept; in every other case it is WRONG_STATE with no change (R18, R78, R81). While an AUTH job of the station is still in the queue, the new
context waits for it and no READ_ID is queued (R44). A new identification is answered before its steps are done: an authenticated QUARANTINED
cartridge is entered as departed with its figures, its checkpoint is cleared and its write-back withdrawn (R18, R44). -/
def Obligations.AuthenticateStartsAContext : Prop :=
  ∀ (s : State) (i : Station) (tag b : Byte) (rest : List Byte) (h : Nat), handed s .authenticate tag (b :: rest) → b.toNat = i.val →
    let r := s.station i
    let held : StationRec := { r with lifecycle := .identifying, seatTimer := false, cartridge := some CartridgeRecord.fresh }
    ((r.lifecycle ≠ .active ∧ r.lifecycle ≠ .quarantined ∧ r.lifecycle ≠ .released) ∨
      (r.lifecycle = .active ∧ (s.context i ≠ none ∨ ∀ c, r.cartridge = some c → c.trust = .unverified ∨ c.trust = .pending)) →
      goesTo (exec .authenticate s) (replied s 0x8B tag .wrongState [])) ∧
    (authBusy s i ∨ nextFree s h →
      (∀ c, r.lifecycle = .active → s.context i = none → r.cartridge = some c → c.trust = .genuine ∨ c.trust = .refilled →
        goesTo (exec .authenticate s) (replied (contextStarted s i true h) 0x8B tag .ok [])) ∧
      ((r.lifecycle = .released ∨ (r.lifecycle = .quarantined ∧ ∀ c, r.cartridge = some c → c.authenticated = false)) →
        goesTo (exec .authenticate s) (replied (contextStarted (s.setStation i held) i false h) 0x8B tag .ok []))) ∧
    (∀ c, r.lifecycle = .quarantined → r.cartridge = some c → c.authenticated = true →
      let left := enteredAsDeparted (replied s 0x8B tag .ok []) i
      let withdrawn := (left.withBus { s.bus with jobs := withdrawnJobs s.bus.jobs i }).setStation i held
      (authBusy withdrawn i ∨ nextFree withdrawn h → goesTo (exec .authenticate s) (contextStarted withdrawn i false h)))

/-- ADMIT is WRONG_STATE outside QUARANTINED, and REFUSED for the causes WRONG_INK and KEY_REVOKED, for a DUPLICATE whose serial another
holding station holds, and for a record whose key index names a REVOKED slot, each with no change. An accepted ADMIT enters ACTIVE without
a cause, with the activation transfer, the checks after its charge and ACTIVATED with the class, and is answered OK. Cause REFILL keeps class,
flag and figures; the others give class UNVERIFIED: a record without a used figure takes its figures from the tag where they are sound, and
otherwise the default capacity and 0, and its level band is computed; an authenticated cartridge keeps its figures and loses its flag, its
checkpoint is cleared and its write-back withdrawn (R9, R17, R44, R128, R132, R134 to R136). That the reply is formed after the entry to
ACTIVE is the model's choice of log entry 18; that ACTIVATED is raised also where the transfer's check quarantines at once is log entry 17. -/
def Obligations.AdmitRefusesOrActivates : Prop :=
  ∀ (s : State) (i : Station) (tag b : Byte) (rest : List Byte), handed s .admitCartridge tag (b :: rest) → b.toNat = i.val →
    ((s.station i).lifecycle ≠ .quarantined → goesTo (exec .admitCartridge s) (replied s 0x8C tag .wrongState [])) ∧
    ∀ c cause, (s.station i).lifecycle = .quarantined → (s.station i).cartridge = some c → c.cause = some cause →
      let revoked := ∃ id, c.identity = some id ∧ ∃ k : KeySlot, id.keyIndex = k.val ∧ (s.store.keySlots[k]).state = .revoked
      let held := ∃ id, c.identity = some id ∧ ∃ (j : Station) (d : CartridgeRecord) (jd : Identity), j ≠ i ∧
        (s.station j).cartridge = some d ∧ d.identity = some jd ∧ jd.serial = id.serial ∧
        ((s.station j).lifecycle = .identifying ∨ (s.station j).lifecycle = .authenticating ∨ (s.station j).lifecycle = .active ∨
          (s.station j).lifecycle = .quarantined ∨ (s.station j).lifecycle = .departing)
      (cause = .wrongInk ∨ cause = .keyRevoked ∨ revoked ∨ (cause = .duplicate ∧ held) →
        goesTo (exec .admitCartridge s) (replied s 0x8C tag .refused [])) ∧
      (¬ revoked → cause = .refill → ∀ a capacity, c.account = some a → c.capacity = some capacity →
        goesTo (exec .admitCartridge s) (replied (madeActive s i c a capacity) 0x8C tag .ok [])) ∧
      (¬ revoked → cause = .noTag ∨ cause = .malformed ∨ cause = .keyAbsent ∨ cause = .noResponse ∨ cause = .badResponse ∨
          (cause = .duplicate ∧ ¬ held) →
        ∀ a capacity,
          (c.account = some a ∧ c.capacity = some capacity) ∨
          (c.account = none ∧ c.authenticated = false ∧
            ((∃ id, c.identity = some id ∧ c.capacity = some capacity ∧ a = ⟨id.tagUsed, id.tagUsed, id.tagUsed, id.tagFlags⟩) ∨
              (c.identity = none ∧ capacity = (s.station i).config.defaultCapacity ∧ a = ⟨0, 0, 0, ⟨false, false⟩⟩))) →
          let supplied := { c with capacity := some capacity, account := some a }
          let known := if c.account = none then withLevel s.part capacity a.used supplied else c
          let admitted := { known with authenticated := false, trust := .unverified }
          let disowned := if c.authenticated = true
            then (s.withBus { s.bus with jobs := withdrawnJobs s.bus.jobs i }).withWrites (s.writes ++ [⟨.checkpoint i none, false⟩]) else s
          let ready := (disowned.withEvents (if c.account = none then levelEvents s.part i capacity a.used supplied s.events
            else s.events)).setStation i { s.station i with cartridge := some admitted }
          goesTo (exec .admitCartridge s) (replied (madeActive ready i admitted a capacity) 0x8C tag .ok []))

/-- TAG_READ and TAG_WRITE: WRONG_STATE by the station's state and class, then REFUSED by length and range, then QUEUE_FULL with four host
jobs in existence; otherwise the job joins the tail under the next free handle, which QUEUED answers (R24, R41, R57, R58). -/
def Obligations.TagRequestsQueueHostJobs : Prop :=
  ∀ (s : State) (i : Station) (tag b offset : Byte) (data : List Byte) (c : Instr) (kind : RequestKind) (job : JobKind) (reply : Byte)
    (length h : Nat) (allowed inRange : Bool), handed s kind tag (b :: offset :: data) → b.toNat = i.val →
    (c = .tagRead ∧ kind = .tagRead ∧ job = .hostRead ∧ reply = 0x87 ∧ (∃ n : Byte, data = [n] ∧ length = n.toNat) ∧
        allowed = decide ((s.station i).lifecycle = .active ∨ (s.station i).lifecycle = .quarantined ∨ (s.station i).lifecycle = .released) ∧
        inRange = decide (1 ≤ length ∧ length ≤ 32 ∧ offset.toNat + length ≤ 128)) ∨
      (c = .tagWrite ∧ kind = .tagWrite ∧ job = .hostWrite ∧ reply = 0x88 ∧ 1 ≤ data.length ∧ data.length ≤ 32 ∧ length = data.length ∧
        allowed = decide ((s.station i).lifecycle = .active ∧ ∀ x ∈ (s.station i).cartridge, x.trust ≠ .unverified) ∧
        inRange = decide (64 ≤ offset.toNat ∧ offset.toNat + length ≤ 96)) →
    let full := 4 ≤ (s.bus.jobs.filter (fun j => j.kind = .hostRead ∨ j.kind = .hostWrite)).length + s.bus.results.length
    (allowed = false → goesTo (exec c s) (replied s reply tag .wrongState [])) ∧
    (allowed = true → inRange = false → goesTo (exec c s) (replied s reply tag .refused [])) ∧
    (allowed = true → inRange = true → full → goesTo (exec c s) (replied s reply tag .queueFull [])) ∧
    (allowed = true → inRange = true → ¬ full → nextFree s h →
      goesTo (exec c s) (replied (s.withBus { s.bus with lastHandle := h, jobs := s.bus.jobs ++
        [{ handle := h, target := some i, kind := job, cls := .host, state := .queued, attempts := 3, polls := 0,
           payload := if job = .hostWrite then some data else none, offset := offset.toNat, length, lastFailure := .none,
           followOn := none, timer := none, phase := .transaction, written := none, disowned := false, cut := none }] })
        reply tag .queued (put 1 h)))

/-- GET_JOB answers a finished host job's entry and frees it, a host job in the queue by its state with no change, and anything else with
NOT_FOUND (R59). -/
def Obligations.GetJobAnswersByHandle : Prop :=
  ∀ (s : State) (tag b : Byte) (rest : List Byte), handed s .getJob tag (b :: rest) →
    (∀ pre e post, s.bus.results = pre ++ e :: post → e.handle = b.toNat → (∀ x ∈ pre ++ post, x.handle ≠ b.toNat) →
      goesTo (exec .getJob s) (replied (s.withBus { s.bus with results := pre ++ post }) 0x89 tag .ok
        ([b] ++ put 1 e.station.val
          ++ put 1 (match e.kind with
            | .wake => 0 | .readId => 1 | .challenge => 2 | .response => 3 | .writeUsage => 4 | .hostRead => 5 | .hostWrite => 6)
          ++ put 1 (match e.result with
            | .done => 0 | .nack => 1 | .timeout => 2 | .refused => 3 | .busFault => 4 | .removed => 5 | .aborted => 6)
          ++ put 1 (match e.lastFailure with | .none => 0 | .nack => 1 | .timeout => 2 | .busFault => 4 | .lost => 7)
          ++ put 1 e.data.length ++ e.data))) ∧
    ((∀ e ∈ s.bus.results, e.handle ≠ b.toNat) →
      (∀ pre j post, queued s pre j post → j.handle = b.toNat → j.kind = .hostRead ∨ j.kind = .hostWrite →
        goesTo (exec .getJob s) (replied s 0x89 tag .queued
          ([b] ++ put 1 (match j.state with | .queued => 0 | .active => 1 | .polling => 2 | .retry => 3)
            ++ put 1 (match j.lastFailure with | .none => 0 | .nack => 1 | .timeout => 2 | .busFault => 4 | .lost => 7)))) ∧
      ((∀ j ∈ s.bus.jobs, j.handle = b.toNat → j.kind ≠ .hostRead ∧ j.kind ≠ .hostWrite) →
        goesTo (exec .getJob s) (replied s 0x89 tag .notFound [])))

/-- ABORT_JOB names a host job in the queue by its handle, or by 0 the last of them in the queue's order: without a byte on the bus it ends
ABORTED at once, with its entry in the result table and JOB_DONE; with one it is to be cut at its byte boundary; where none is named the
answer is NOT_FOUND with no change (R60). That the reply to an abort that ends its job at once is formed after JOB_DONE is the model's choice
of log entry 18. -/
def Obligations.AbortJobEndsHostJob : Prop :=
  ∀ (s : State) (tag b : Byte) (rest : List Byte) (pre post : List Job) (j : Job) (i : Station), handed s .abortJob tag (b :: rest) →
    s.operating = .operating →
    ((∀ k ∈ s.bus.jobs, (b = 0 ∨ k.handle = b.toNat) → k.kind ≠ .hostRead ∧ k.kind ≠ .hostWrite) →
      goesTo (exec .abortJob s) (replied s 0x8A tag .notFound [])) ∧
    (queued s pre j post → j.kind = .hostRead ∨ j.kind = .hostWrite → j.target = some i → j.followOn = none → j.cls = .host →
      (b.toNat = j.handle ∨ (b = 0 ∧ ∀ k ∈ post, k.kind ≠ .hostRead ∧ k.kind ≠ .hostWrite)) → j.handle ≠ 0 →
      ((j.state ≠ .active ∨ s.bus.condition ≠ .own) →
        goesTo (exec .abortJob s) (replied ((s.withBus { s.bus with
          jobs := pre ++ post
          results := s.bus.results ++ [⟨j.handle, i, j.kind, .aborted, j.lastFailure, []⟩] }).raise .jobDone (some i) j.handle)
          0x8A tag .ok (put 1 j.handle))) ∧
      (j.state = .active → s.bus.condition = .own → j.cut = none →
        goesTo (exec .abortJob s) (replied (s.withBus { s.bus with jobs := pre ++ { j with cut := some .abort } :: post })
          0x8A tag .ok (put 1 j.handle))))

/-! ## The stations' inputs and deliveries (chapters 1, 6 and 8) -/

/-- A presence input that asserts seats a VACANT station, its seat timer started and a running ink-sense debouncer begun afresh, and stops
the removal timer of a held station, whichever of the two rows brings it; one that deasserts makes SEATED VACANT again and starts the
removal timer of a held station. In HALTED the input moves and no station acts on it (R190). An input that does not move changes nothing
(R10, R21, R156). That an input that does not move changes nothing, and that either row may bring an assertion, are the model's choice of log
entry 9. -/
def Obligations.PresenceMovesTheStation : Prop :=
  ∀ (s : State) (i : Station) (c : Instr), up s →
    let r := s.station i
    let input (level : Bool) := s.withPresence (s.presence.set i level)
    let held := r.lifecycle ≠ .vacant ∧ r.lifecycle ≠ .seated
    (c = .presenceAsserted i ∨ c = .presenceReasserted i →
      (s.presence[i] = true → goesTo (exec c s) s) ∧
      (s.presence[i] = false → s.operating = .halted → goesTo (exec c s) (input true)) ∧
      (s.presence[i] = false → s.operating = .operating →
        (r.lifecycle = .vacant → goesTo (exec c s) ((input true).setStation i { r with
          lifecycle := .seated, seatTimer := true,
          ink := if r.config.inkSenseEnable then ⟨s.inkInputs[i], true, none, none⟩ else r.ink })) ∧
        (r.lifecycle = .seated → goesTo (exec c s) (input true)) ∧
        (held → goesTo (exec c s) ((input true).setStation i { r with removalTimer := false })))) ∧
    (c = .presenceDeasserted i →
      (s.presence[i] = false → goesTo (exec c s) s) ∧
      (s.presence[i] = true → s.operating = .halted → goesTo (exec c s) (input false)) ∧
      (s.presence[i] = true → s.operating = .operating →
        (r.lifecycle = .vacant → goesTo (exec c s) (input false)) ∧
        (r.lifecycle = .seated →
          goesTo (exec c s) ((input false).setStation i { r with lifecycle := .vacant, seatTimer := false })) ∧
        (held → goesTo (exec c s) ((input false).setStation i { r with removalTimer := true }))))

/-- SEAT_TIMER_EXPIRY begins a new holding in IDENTIFYING: a fresh record, a context at READ for attempt 1, a READ_ID of class AUTH at the
tail of the queue, and SEATED raised (R5, R10, R11, R63). While an AUTH job of the station is still in the queue, the context waits for it and
no READ_ID is queued (R44). Where no seat timer runs nothing happens; that is the model's choice of log entry 9. -/
def Obligations.SeatTimerStartsIdentification : Prop :=
  ∀ (s : State) (i : Station) (h : Nat), serving s →
    ((s.station i).seatTimer = false → goesTo (exec (.seatTimerExpiry i) s) s) ∧
    ((s.station i).lifecycle = .seated → (s.station i).seatTimer = true → authBusy s i ∨ nextFree s h →
      goesTo (exec (.seatTimerExpiry i) s)
        ((contextStarted (s.setStation i { s.station i with
              lifecycle := .identifying, seatTimer := false
              cartridge := some { identity := none, capacity := none, trust := .pending, authenticated := false, cause := none,
                                  origin := none, evidence := ⟨false, false, false, false, false, false⟩, account := none,
                                  emptyLatch := false, refillMark := false, band := none, bandChanged := false,
                                  overdrawRaised := false, emptyRaised := false, usedSaturated := false } }) i false h).raise
          .seated (some i) 0))

/-- REMOVAL_TIMER_EXPIRY tears the station down: its waiting jobs leave the queue, a host job among them with an entry REMOVED and JOB_DONE, one
with a byte on the bus is to be cut; its context and VERIFY requests go; an authenticated cartridge of ACTIVE, QUARANTINED or DEPARTING is
entered as departed with its figures and its checkpoint is cleared after the table; the record and the baseline are absent, the station is
VACANT and VACATED is raised. Its metering fields and configuration stay, and so does everything else. Where no removal timer runs nothing
happens (R22, R51, R56, R69). That nothing happens without the timer is the model's choice of log entry 9; that an ACTIVE write job without a
byte on the bus leaves the queue at once, and that jobs which end together end in the queue's order, is that of log entry 16; which reason
holds for a job to be cut a second time is the free choice of log entry 15. -/
def Obligations.RemovalTearsTheStationDown : Prop :=
  ∀ (s : State) (i : Station), serving s →
    ((s.station i).removalTimer = false → goesTo (exec (.removalTimerExpiry i) s) s) ∧
    ((s.station i).removalTimer = true → (s.station i).lifecycle ≠ .vacant → (s.station i).lifecycle ≠ .seated →
      let ending := s.bus.jobs.filter (fun j => j.target = some i ∧ ¬ (j.state = .active ∧ s.bus.condition = .own))
      let host := ending.filter (fun j => j.kind = .hostRead ∨ j.kind = .hostWrite)
      let jobless := (s.withBus { s.bus with
          jobs := (s.bus.jobs.filter (fun j => ∀ k ∈ ending, k.handle ≠ j.handle)).map
            (fun j => if j.target = some i then toBeCut .removal j else j)
          results := s.bus.results ++ host.map (fun j => ⟨j.handle, i, j.kind, .removed, j.lastFailure, []⟩) }).withEvents
        (host.foldl (fun q j => q.raise none .jobDone (some i) j.handle) s.events)
      let alone := jobless.withAuth { s.auth with
        contexts := s.auth.contexts.set i none
        fifo := s.auth.fifo.filter (fun r => r.station ≠ i)
        computing := s.auth.computing.map (fun c => if c.request.station = i then { c with withdrawn := true } else c) }
      let left := if (s.station i).lifecycle = .active ∨ (s.station i).lifecycle = .quarantined ∨ (s.station i).lifecycle = .departing
        then enteredAsDeparted alone i else alone
      goesTo (exec (.removalTimerExpiry i) s) ((left.setStation i { s.station i with
        lifecycle := .vacant, removalTimer := false, cartridge := none
        ink := { (s.station i).ink with baseline := none } }).raise .vacated (some i) 0))

/-- An insertion into the departed table: an entry of the same serial is taken out and merged, the larger figures, the union of the
evidence and REFILLED over GENUINE; a table still full gives up its head; the new entry goes to the tail with the next sequence, and at
the counter's end all entries are renumbered from 0 (R146, R147). -/
def Obligations.InsertionMergesEvictsAndAppends : Prop :=
  ∀ (t : DepartedTable) (e : DepartedEntry),
    let place (entries : List DepartedEntry) (x : DepartedEntry) : DepartedTable :=
      let all := entries ++ [{ x with sequence := t.nextSequence }]
      if t.nextSequence = 4294967295 then
        { entries := all.mapIdx (fun n y => { y with sequence := n }), nextSequence := all.length }
      else { entries := all, nextSequence := t.nextSequence + 1 }
    (∀ pre old post, t.entries = pre ++ old :: post → old.serial = e.serial → (∀ x ∈ pre ++ post, x.serial ≠ e.serial) →
      (pre ++ post).length < 24 →
      t.insert e = place (pre ++ post)
        ⟨e.serial, e.inkType, e.capacity, max e.used old.used, max e.lastWritten old.lastWritten,
          if e.cls = .refilled ∨ old.cls = .refilled then .refilled else .genuine,
          ⟨e.evidence.rollback || old.evidence.rollback, e.evidence.emptyReturn || old.evidence.emptyReturn,
            e.evidence.marked || old.evidence.marked, e.evidence.overdraw || old.evidence.overdraw,
            e.evidence.senseRise || old.evidence.senseRise, e.evidence.conflict || old.evidence.conflict⟩, e.sequence, e.station⟩) ∧
    ((∀ x ∈ t.entries, x.serial ≠ e.serial) →
      (t.entries.length < 24 → t.insert e = place t.entries e ∧ t.evicted e.serial = none) ∧
      (∀ head tail, t.entries = head :: tail → 24 ≤ t.entries.length →
        t.insert e = place tail e ∧ t.evicted e.serial = some head))

/-- INK_SENSE_CHANGE makes the new level the candidate of a running debouncer and restarts its settle timer. INK_SETTLE_EXPIRY takes a
reading where the candidate differs from the reading or none is there; with the baseline absent it becomes the baseline; a rise from ABSENT
to PRESENT with the baseline present is evidence SENSE_RISE in ACTIVE and QUARANTINED and nothing elsewhere (R156 to R158). In HALTED a
change moves the input and nothing else (R190). That a level that does not change, an expiry without the settle timer, and an expiry in HALTED
change nothing is the model's choice of log entry 9. -/
def Obligations.InkSenseTakesReadings : Prop :=
  ∀ (s : State) (i : Station) (level : Bool), up s →
    let r := s.station i
    (s.inkInputs[i] = level → goesTo (exec (.inkSenseChange i level) s) s) ∧
    (s.inkInputs[i] ≠ level → r.config.inkSenseEnable = false ∨ s.operating = .halted →
      goesTo (exec (.inkSenseChange i level) s) (s.withInkInputs (s.inkInputs.set i level))) ∧
    (s.inkInputs[i] ≠ level → r.config.inkSenseEnable = true → s.operating = .operating →
      goesTo (exec (.inkSenseChange i level) s) ((s.withInkInputs (s.inkInputs.set i level)).setStation i
        { r with ink := { r.ink with candidate := level, settle := true } })) ∧
    (r.ink.settle = false ∨ s.operating = .halted → goesTo (exec (.inkSettleExpiry i) s) s) ∧
    (r.ink.settle = true → s.operating = .operating →
      let stopped := s.setStation i { r with ink := { r.ink with settle := false } }
      let read := s.setStation i { r with ink :=
        { r.ink with settle := false, reading := some r.ink.candidate,
                     baseline := if r.ink.baseline = none then some r.ink.candidate else r.ink.baseline } }
      (r.ink.reading = some r.ink.candidate → goesTo (exec (.inkSettleExpiry i) s) stopped) ∧
      (r.ink.reading ≠ some r.ink.candidate →
        (r.ink.baseline = none ∨ r.ink.reading = none ∨ r.ink.candidate = false ∨
            (r.lifecycle ≠ .active ∧ r.lifecycle ≠ .quarantined) →
          goesTo (exec (.inkSettleExpiry i) s) read) ∧
        (r.ink.baseline ≠ none → r.ink.reading = some false → r.ink.candidate = true →
          (r.lifecycle = .active ∨ r.lifecycle = .quarantined) →
          goesTo (exec (.inkSettleExpiry i) s) (read.recordEvidence i .senseRise))))

/-- Evidence: for an authenticated cartridge the kind joins the set, GENUINE becomes REFILLED, the mark is set, which is a test for a write-back
need of an ACTIVE station where it was clear, the checkpoint is written once where the record has changed, REFILL_SUSPECTED is raised with
the kind, and under policy QUARANTINE an ACTIVE station is QUARANTINED with REFILL. In HALTED no checkpoint is written and no policy applied.
For a PENDING cartridge the kind joins the set, the mark is set and the event is raised; for an UNVERIFIED one the mark stays too
(R136, R142, R152 to R154, R186). -/
def Obligations.EvidenceChangesTheRecord : Prop :=
  ∀ (s : State) (i : Station) (k : EvidenceKind) (c : CartridgeRecord), (s.station i).cartridge = some c →
    let changed := { c with
      evidence := joinedEvidence c.evidence (setOf [k])
      trust := if c.authenticated = true ∧ c.trust = .genuine then .refilled else c.trust
      refillMark := if c.authenticated = true ∨ c.trust ≠ .unverified then true else c.refillMark }
    let recorded := s.setStation i { s.station i with cartridge := some changed }
    (c.authenticated = true →
      let tested := if c.refillMark = true then recorded else afterNeed recorded i changed
      let kept : State := match accountOf changed with
        | some account => if changed ≠ c ∧ s.operating = .operating
          then tested.withWrites (s.writes ++ [⟨.checkpoint i (some account), false⟩]) else tested
        | none => tested
      let reported := kept.raise .refillSuspected (some i) (evidenceNumber k)
      s.recordEvidence i k =
        if s.part.policy = .quarantine ∧ s.operating = .operating ∧ (s.station i).lifecycle = .active
        then toQuarantine reported i changed .refill 9 else reported) ∧
    (c.authenticated = false → s.recordEvidence i k = recorded.raise .refillSuspected (some i) (evidenceNumber k))

/-- W_DELIVERY takes the station's oldest delivery. In ACTIVE and DEPARTING the whole of it grows used and the charged total, each held at
4,294,967,295, and the checks after a charge follow in their order: USED_SATURATED at the first saturation, the level band with LEVEL_BAND
and CARTRIDGE_EMPTY, the evidence OVERDRAW once per holding beyond reserve and tolerance, and the write-back need of an ACTIVE station. In
every other state it grows the debt up to the swap reserve, the rest goes to dry overflow, and any rest raises RESERVOIR_DRY with the dry
overflow then reached; here the dry overflow is in its range. This happens in HALTED too; without a delivery nothing happens (R119 to R121,
R125, R128, R129, R134, R136, R155). That nothing happens without a delivery is the model's choice of log entry 9; that deliveries wait in
a list is log entry 20. -/
def Obligations.DeliveriesGoWhereTheStateSends : Prop :=
  ∀ (s : State) (i : Station) (pre post : List Delivery) (w : Nat), up s →
    ((∀ d ∈ s.meter.deliveries, d.station ≠ i) → goesTo (exec (.wDelivery i) s) s) ∧
    (s.meter.deliveries = pre ++ ⟨i, w⟩ :: post → (∀ d ∈ pre, d.station ≠ i) →
      let r := s.station i
      let rest := s.withMeter { s.meter with deliveries := pre ++ post }
      (r.lifecycle ≠ .active → r.lifecycle ≠ .departing → r.meter.debt ≤ r.config.swapReserve → r.meter.dryOverflow ≤ 4294967295 →
        (r.meter.debt + w ≤ r.config.swapReserve →
          goesTo (exec (.wDelivery i) s) (rest.setStation i { r with meter := { r.meter with debt := r.meter.debt + w } })) ∧
        (r.config.swapReserve < r.meter.debt + w → ∀ dry,
          dry = min 4294967295 (r.meter.dryOverflow + (r.meter.debt + w - r.config.swapReserve)) →
          goesTo (exec (.wDelivery i) s) ((rest.setStation i { r with
            meter := { r.meter with debt := r.config.swapReserve, dryOverflow := dry } }).raiseCondition (.reservoirDry i) dry))) ∧
      (∀ c a, (r.lifecycle = .active ∨ r.lifecycle = .departing) → r.cartridge = some c → c.account = some a →
        let saturates := 4294967295 ≤ a.used ∨ 4294967295 < a.used + w
        (∃ t c' a', goesTo (exec (.wDelivery i) s) t ∧ (t.station i).cartridge = some c' ∧ c'.account = some a' ∧
          a'.used = min 4294967295 (a.used + w) ∧ a'.lastWritten = a.lastWritten ∧ a'.baseUsed = a.baseUsed ∧
          c'.usedSaturated = (c.usedSaturated || decide saturates) ∧ c'.capacity = c.capacity ∧
          c'.identity = c.identity ∧
          (t.station i).meter = { r.meter with charged := min 4294967295 (r.meter.charged + w) } ∧
          (∀ j : Station, j ≠ i → t.station j = s.station j) ∧ t.meter = { s.meter with deliveries := pre ++ post } ∧
          t.departed = s.departed ∧ t.store = s.store ∧ t.standing = s.standing ∧ t.tally = s.tally ∧ t.part = s.part ∧
          (s.operating = .halted → (t.station i).lifecycle = r.lifecycle ∧ t.writes = s.writes)) ∧
        ∀ capacity, c.capacity = some capacity → goesTo (exec (.wDelivery i) s) (chargedWith rest i w c a capacity)))

/-! ## The cartridge bus (chapter 3) -/

/-- ARBITER_START_JOB: with no job ACTIVE and the bus FREE, the oldest of the jobs of the lowest class that may start becomes ACTIVE, its
transaction is opened at the bus speed then configured, and the condition is OWN; a WRITE_USAGE job that has never started then takes its
payload from the record, whose write-back base becomes what is written. Otherwise nothing happens (R45, R46, R49, R138). That nothing
happens otherwise is the model's choice of log entry 9; that a job that comes back from a loss of arbitration counts its polls from 0 is that
of log entry 33; that a write-back which was ACTIVE as a context was created, by a recheck or by a new identification, and is in RETRY is held by that
context is that of log entry 38. -/
def Obligations.ArbiterStartsOldestOfLowestClass : Prop :=
  ∀ (s : State) (pre post : List Job) (j : Job), serving s →
    (s.bus.condition ≠ .free ∨ (∃ k ∈ s.bus.jobs, k.state = .active) ∨ (∀ k ∈ s.bus.jobs, ¬ mayStart s k) →
      goesTo (exec .arbiterStartJob s) s) ∧
    (s.bus.condition = .free → queued s pre j post → (∀ k ∈ s.bus.jobs, k.state ≠ .active) → mayStart s j →
      (∀ k ∈ pre, mayStart s k → classNumber j.cls < classNumber k.cls) →
      (∀ k ∈ post, mayStart s k → classNumber j.cls ≤ classNumber k.cls) →
      (j.kind = .wake ∨ j.target ≠ none) → (j.kind = .hostRead → 1 ≤ j.length) →
      let started (x : Job) : Job :=
        { x with state := .active, timer := none, phase := .transaction, polls := if j.state = .polling then j.polls else 0 }
      let opened (t : State) (x : Job) := t.withBus { s.bus with
        jobs := pre ++ x :: post, condition := .own, transaction := some ⟨s.part.busSpeed, opens x⟩ }
      (j.kind ≠ .writeUsage ∨ j.state ≠ .queued → goesTo (exec .arbiterStartJob s) (opened s (started j))) ∧
      ∀ i c a, j.kind = .writeUsage → j.state = .queued → j.target = some i → (s.station i).cartridge = some c →
        c.account = some a → ∃ bytes, usageWrite a.used ⟨c.emptyLatch, c.refillMark⟩ s.store.partId bytes ∧
          goesTo (exec .arbiterStartJob s) (opened
            (s.setStation i { s.station i with cartridge := some { c with
              account := some { a with baseUsed := a.used, baseFlags := ⟨c.emptyLatch, c.refillMark⟩ } } })
            (started { j with payload := some bytes, written := some (a.used, ⟨c.emptyLatch, c.refillMark⟩) })))

/-- JOB_TRANSACTION_END and JOB_CUT_AT_BYTE_BOUNDARY free the bus. A WAKE ends whatever is acknowledged; a HOST_READ ends with its bytes in
the result table and JOB_DONE; a CHALLENGE has its context go on to RESPONSE with that job queued. A NACK puts a job with attempts left in
RETRY; at the last it ends a host job, and a CHALLENGE as NO_ANSWER. RESPONSE_POLL counts a poll: below 8 the job is POLLING with its timer at
the poll spacing, at 8 the attempt fails with TIMEOUT, the last one as NO_ANSWER. NO_ANSWER in attempt 1 begins attempt 2, and in attempt 2
quarantines with NO_RESPONSE. An abandoned job's result is discarded, and a context that waited for it then has its READ_ID queued. A host job
to be cut ends REMOVED or ABORTED, with its entry, or without one in HALTED; any other job to be cut leaves the queue without a result or a
follow-on; a job not to be cut is not cut. A poll or retry timer's expiry stops the timer of the named job in that state and touches nothing
else (R44, R46 to R48, R50, R51, R56, R61, R65, R66). That a row that cannot occur in the state, a cut of a job not to be cut or an expiry in
another state, changes nothing is the model's choice of log entry 9; that the stop of a cut frees the bus in HALTED too is that of log entry 14,
and that no READ_ID is queued there that of log entry 16. -/
def Obligations.TransactionsAndPollsMoveTheJob : Prop :=
  ∀ (s : State) (pre post : List Job) (j : Job) (h : Nat), up s →
    let ended := s.withBus (released s.bus (pre ++ post))
    let retry (x : Job) (f : LastFailure) := s.withBus (released s.bus (pre ++ inRetry x f s.part.pollSpacing :: post))
    let host (i : Station) := j.target = some i ∧ j.cls = .host ∧ j.followOn = none ∧ s.operating = .operating
    let auth (i : Station) (abandoned : Bool) := j.target = some i ∧ j.cls = .auth ∧ j.followOn = none ∧ j.disowned = abandoned
    let awaits (i : Station) (x : AuthContext) (step : AuthStep) := s.context i = some x ∧ x.step = step ∧ x.firstJobDue = false
    (running s .own pre j post →
      (∀ how, j.kind = .wake → j.target = none → goesTo (exec (.jobTransactionEnd how) s) ended) ∧
      (∀ i data, j.kind = .hostRead → host i → data.length = j.length →
        goesTo (exec (.jobTransactionEnd (.done data)) s) (hostFinished ended i j .done j.lastFailure data)) ∧
      (∀ i x, j.kind = .challenge → auth i false → awaits i x .challenge → nextFree ended h →
        goesTo (exec (.jobTransactionEnd (.done [])) s)
          ((ended.setContext i (some { x with step := .response })).withBus { ended.bus with
            jobs := pre ++ post ++ [freshJob h (some i) .response .auth none], lastHandle := h })) ∧
      (j.kind = .readId ∨ j.kind = .challenge ∨ j.kind = .hostRead → 1 < j.attempts →
        goesTo (exec (.jobTransactionEnd .nack) s) (retry j .nack)) ∧
      (∀ i, j.kind = .hostRead → host i → j.attempts = 1 →
        goesTo (exec (.jobTransactionEnd .nack) s) (hostFinished ended i j .nack .nack [])) ∧
      (∀ i x c, j.kind = .challenge → auth i false → awaits i x .challenge → (s.station i).cartridge = some c → j.attempts = 1 →
        nextFree ended h → goesTo (exec (.jobTransactionEnd .nack) s) (unanswered ended i x c h)) ∧
      (∀ i data, j.kind = .readId ∨ j.kind = .challenge → auth i true → s.operating = .operating → nextFree ended h →
        (data.length = (if j.kind = .readId then 36 else 0) →
          goesTo (exec (.jobTransactionEnd (.done data)) s) (dueJobQueued ended i h)) ∧
        (j.attempts = 1 → goesTo (exec (.jobTransactionEnd .nack) s) (dueJobQueued ended i h))) ∧
      goesTo (exec .jobCutAtByteBoundary s) s) ∧
    (∀ r, queued s pre j post → j.state = .active → (∀ k ∈ pre ++ post, k.state ≠ .active) → s.bus.condition = .own → j.cut = some r →
      (∀ i, j.kind = .hostRead ∨ j.kind = .hostWrite → host i → goesTo (exec .jobCutAtByteBoundary s)
        (hostFinished ended i j (match r with | .removal => .removed | .abort => .aborted | .shutdown => .aborted) j.lastFailure [])) ∧
      (s.operating = .halted → goesTo (exec .jobCutAtByteBoundary s) ended) ∧
      (j.kind ≠ .hostRead → j.kind ≠ .hostWrite →
        (j.target = none ∨ j.cls ≠ .auth → goesTo (exec .jobCutAtByteBoundary s) ended) ∧
        (∀ i, j.target = some i → j.cls = .auth → s.operating = .operating → nextFree ended h →
          goesTo (exec .jobCutAtByteBoundary s) (dueJobQueued ended i h)))) ∧
    (running s .own pre j post → j.kind = .response →
      (j.polls + 1 < 8 → goesTo (exec .responsePoll s) (s.withBus (released s.bus (pre ++
        { j with polls := j.polls + 1, state := .polling, timer := some s.part.pollSpacing } :: post)))) ∧
      (j.polls = 7 → 1 < j.attempts → goesTo (exec .responsePoll s) (retry { j with polls := 8 } .timeout)) ∧
      (j.polls = 7 → j.attempts = 1 → nextFree ended h → ∀ i,
        (∀ x c, auth i false → awaits i x .response → (s.station i).cartridge = some c →
          goesTo (exec .responsePoll s) (unanswered ended i x c h)) ∧
        (auth i true → s.operating = .operating → goesTo (exec .responsePoll s) (dueJobQueued ended i h)))) ∧
    (queued s pre j post →
      (j.state = .polling → goesTo (exec (.pollTimerExpiry j.handle) s)
        (s.withBus { s.bus with jobs := pre ++ { j with timer := none } :: post })) ∧
      (j.state ≠ .polling → goesTo (exec (.pollTimerExpiry j.handle) s) s) ∧
      (j.state = .retry → goesTo (exec (.retryTimerExpiry j.handle) s)
        (s.withBus { s.bus with jobs := pre ++ { j with timer := none } :: post })) ∧
      (j.state ≠ .retry → goesTo (exec (.retryTimerExpiry j.handle) s) s))

/-- The two phases of WRITE_USAGE and HOST_WRITE. WRITE_PHASE_END releases the bus, or fails the attempt on a NACK. STATUS_POLL counts a
poll and waits one poll spacing, and the eighth fails the attempt; the wait's end opens the status phase again where the bus is FREE.
STATUS_READ takes the status: 0 ends the job DONE, 1 ends a WRITE_USAGE REFUSED, and every other value fails the attempt. A failed attempt
goes to RETRY, and the last one ends the job NACK: a HOST_WRITE with its entry and JOB_DONE, a WRITE_USAGE with WRITEBACK_FAILED. REFUSED is
evidence CONFLICT. A DONE write-back's figure becomes last_written and is checkpointed. In class DEPART each of these results completes the
departure. A withdrawn job's result is discarded, and the follow-on is asked for last (R20, R43, R44, R49, R139, R140). When the status phase
opens is log entry 13. -/
def Obligations.WriteJobsRunTwoPhases : Prop :=
  ∀ (s : State) (condition : BusCondition) (pre post : List Job) (j : Job) (status : Byte), up s →
    running s condition pre j post → j.kind = .writeUsage ∨ j.kind = .hostWrite →
    let retry (x : Job) := s.withBus (released s.bus (pre ++ inRetry x .nack s.part.pollSpacing :: post))
    let ended := s.withBus (released s.bus (pre ++ post))
    let host (i : Station) := j.kind = .hostWrite ∧ j.target = some i ∧ j.cls = .host ∧ j.followOn = none ∧ s.operating = .operating
    let usage (i : Station) := j.kind = .writeUsage ∧ j.target = some i ∧
      (j.cls = .writeBack ∨ (j.cls = .depart ∧ (s.station i).lifecycle = .departing)) ∧ s.operating = .operating
    let failed (c : Instr) (x : Job) : Prop :=
      (1 < j.attempts → goesTo (exec c s) (retry x)) ∧
      (∀ i, j.attempts = 1 → host i → goesTo (exec c s) (hostFinished ended i j .nack .nack [])) ∧
      (∀ i, j.attempts = 1 → usage i → goesTo (exec c s) (writeBackEnded ended i j .nack 1))
    (condition = .own → j.phase = .transaction →
      goesTo (exec (.writePhaseEnd true) s) (s.withBus (released s.bus (pre ++ { j with phase := .between } :: post))) ∧
      failed (.writePhaseEnd false) j) ∧
    (j.phase = .statusWait →
      (∀ i, condition = .free → j.target = some i → goesTo (exec .statusPollWaitExpiry s) (s.withBus { s.bus with
        jobs := pre ++ { j with phase := .status, timer := none } :: post, condition := .own,
        transaction := some ⟨s.part.busSpeed, tagRead i 36 1⟩ })) ∧
      (condition ≠ .free → goesTo (exec .statusPollWaitExpiry s)
        (s.withBus { s.bus with jobs := pre ++ { j with phase := .between, timer := none } :: post }))) ∧
    ((j.phase = .status ∧ condition = .own) ∨ (j.phase = .between ∧ condition = .free) →
      (j.polls + 1 < 8 → goesTo (exec .statusPoll s) (s.withBus (released s.bus (pre ++
        { j with polls := j.polls + 1, phase := .statusWait, timer := some s.part.pollSpacing } :: post)))) ∧
      (j.polls = 7 → failed .statusPoll { j with polls := 8 }) ∧
      (2 ≤ status.toNat ∨ (status = 1 ∧ j.kind = .hostWrite) → failed (.statusRead status) j) ∧
      (∀ i, status = 0 → host i → goesTo (exec (.statusRead status) s) (hostFinished ended i j .done j.lastFailure [])) ∧
      ∀ i, usage i →
        (status = 1 → goesTo (exec (.statusRead status) s) (writeBackEnded ended i j .refused 3)) ∧
        (status = 0 → j.disowned = true → goesTo (exec (.statusRead status) s) (followedOn ended i j)) ∧
        (∀ c a used flags, status = 0 → j.disowned = false → j.written = some (used, flags) → (s.station i).cartridge = some c →
          c.account = some a →
          let c' := { c with account := some { a with lastWritten := used } }
          let noted := ended.setStation i { s.station i with cartridge := some c' }
          let kept := match accountOf c' with
            | some k => noted.withWrites (s.writes ++ [⟨.checkpoint i (some k), false⟩])
            | none => noted
          goesTo (exec (.statusRead status) s) (followedOn (if j.cls = .depart then departureDone kept i else kept) i j)))

/-- The bus condition under other masters and a stuck line. ARBITRATION_LOST, and a FOREIGN_START in OWN, put the ACTIVE job in RETRY with
last failure LOST, its attempts kept and no timer; a FOREIGN_START in FREE makes the condition FOREIGN; STOP_CONDITION makes FOREIGN FREE,
ends BUS_BLOCKED and lets a job between its phases go on, one that waits between status polls as it was; FOREIGN_TIMEOUT raises BUS_BLOCKED;
STUCK_BUS fails the ACTIVE job's attempt, in FOREIGN that of a job between its phases, ends BUS_BLOCKED there, and begins RECOVERY; a last attempt ends the job BUS_FAULT: READ_ID quarantines with NO_TAG, CHALLENGE and RESPONSE end NO_ANSWER, WRITE_USAGE raises
WRITEBACK_FAILED, a host job has its entry and JOB_DONE. RECOVERY_END, in HALTED too, and FAULT_RETRY_EXPIRY in FAULT, with the data line high:
FREE, BUS_RECOVERED, a WAKE queued unless one is present, and the end of BUS_FAULT; with it low: FAULT, its retry timed, and BUS_FAULT raised
with the number of failed recoveries (R12, R52 to R55, R61, R65, R140, R163). That a row that cannot occur in the condition changes nothing is the model's choice of log entry 9; that a recovery
completes in HALTED with its whole effect is that of log entry 14; when the status phase opens is log entry 13. -/
def Obligations.BusConditionFollowsTheBus : Prop :=
  ∀ (s : State) (pre post : List Job) (j : Job) (c : Instr) (cbdHigh : Bool) (h : Nat), up s →
    let idle := ∀ k ∈ s.bus.jobs, k.state ≠ .active
    let lost := s.withBus { s.bus with
      jobs := pre ++ { j with state := .retry, timer := none, phase := .transaction, lastFailure := .lost } :: post
      condition := .foreign, foreignTimer := true, transaction := none }
    let stuck (t : State) :=
      let x := if s.bus.condition = .foreign then t.endCondition .busBlocked else t
      x.withBus { x.bus with condition := .recovery, foreignTimer := false, transaction := none }
    let gone := s.withBus { s.bus with jobs := pre ++ post }
    (s.operating = .operating →
      (running s .own pre j post → goesTo (exec .arbitrationLost s) lost ∧ goesTo (exec .foreignStart s) lost) ∧
      (idle → goesTo (exec .arbitrationLost s) s) ∧
      (s.bus.condition = .free → goesTo (exec .foreignStart s)
        (s.withBus { s.bus with condition := .foreign, foreignTimer := true, transaction := none })) ∧
      (s.bus.condition = .foreign ∨ s.bus.condition = .recovery ∨ s.bus.condition = .fault → goesTo (exec .foreignStart s) s) ∧
      (s.bus.condition = .foreign → (∀ k ∈ s.bus.jobs, k.state = .active → k.phase ≠ .between) → goesTo (exec .stopCondition s)
        ((s.withBus (released s.bus s.bus.jobs)).endCondition .busBlocked)) ∧
      (∀ i, running s .foreign pre j post → j.phase = .between → j.target = some i → goesTo (exec .stopCondition s)
        ((s.withBus { released s.bus (pre ++ { j with phase := .status, timer := none } :: post) with
          condition := .own, transaction := some ⟨s.part.busSpeed, tagRead i 36 1⟩ }).endCondition .busBlocked)) ∧
      (s.bus.condition ≠ .foreign → goesTo (exec .stopCondition s) s ∧ goesTo (exec .foreignTimeout s) s) ∧
      (s.bus.condition = .foreign → s.bus.foreignTimer = true → goesTo (exec .foreignTimeout s)
        ((s.withBus { s.bus with foreignTimer := false }).raiseCondition .busBlocked 0)) ∧
      (s.bus.condition = .free ∨ s.bus.condition = .own ∨ s.bus.condition = .foreign → idle → goesTo (exec .stuckBus s) (stuck s)) ∧
      (∀ condition, running s condition pre j post → condition = .own ∨ condition = .free ∨ condition = .foreign →
        (1 < j.attempts → goesTo (exec .stuckBus s)
          (stuck (s.withBus { s.bus with jobs := pre ++ inRetry j .busFault s.part.pollSpacing :: post }))) ∧
        (j.attempts = 1 → j.kind = .wake → j.target = none → goesTo (exec .stuckBus s) (stuck gone)) ∧
        ∀ i, j.attempts = 1 → j.target = some i →
          (j.kind = .hostRead ∨ j.kind = .hostWrite → j.cls = .host → j.followOn = none →
            goesTo (exec .stuckBus s) (stuck (hostFinished gone i j .busFault .busFault []))) ∧
          (j.kind = .writeUsage → j.cls = .writeBack ∨ (j.cls = .depart ∧ (s.station i).lifecycle = .departing) →
            goesTo (exec .stuckBus s) (stuck (writeBackEnded gone i j .busFault 4))) ∧
          ∀ x cartridge, j.cls = .auth → j.followOn = none → j.disowned = false → s.context i = some x → x.firstJobDue = false →
            (s.station i).cartridge = some cartridge →
            (j.kind = .readId → x.step = .read →
              goesTo (exec .stuckBus s) (stuck (toQuarantine gone i cartridge .noTag 1))) ∧
            ((j.kind = .challenge ∧ x.step = .challenge) ∨ (j.kind = .response ∧ x.step = .response) → nextFree gone h →
              goesTo (exec .stuckBus s) (stuck (unanswered gone i x cartridge h)))) ∧
      (s.bus.condition = .recovery ∨ s.bus.condition = .fault → goesTo (exec .stuckBus s) s)) ∧
    (c = .recoveryEnd cbdHigh ∧ s.bus.condition ≠ .recovery ∨
      c = .faultRetryExpiry cbdHigh ∧ (s.operating = .halted ∨ s.bus.condition ≠ .fault ∨ s.bus.faultTimer = false) →
      goesTo (exec c s) s) ∧
    (c = .recoveryEnd cbdHigh ∧ s.bus.condition = .recovery ∨
      c = .faultRetryExpiry cbdHigh ∧ s.operating = .operating ∧ s.bus.condition = .fault ∧ s.bus.faultTimer = true →
      (cbdHigh = true → (∃ k ∈ s.bus.jobs, k.kind = .wake) →
        goesTo (exec c s) (((s.withBus (released s.bus s.bus.jobs)).raise .busRecovered none 0).endCondition .busFault)) ∧
      (cbdHigh = true → (∀ k ∈ s.bus.jobs, k.kind ≠ .wake) → nextFree s h →
        goesTo (exec c s) (((s.withBus { released s.bus (s.bus.jobs ++ [freshJob h none .wake .wake none]) with
          lastHandle := h }).raise .busRecovered none 0).endCondition .busFault)) ∧
      (cbdHigh = false → s.bus.failedRecoveries + 1 ≤ 4294967295 →
        goesTo (exec c s) ((s.withBus { s.bus with
          condition := .fault, faultTimer := true, failedRecoveries := s.bus.failedRecoveries + 1, transaction := none
          }).raiseCondition .busFault (s.bus.failedRecoveries + 1))))

/-! ## Identification and authentication (chapters 1 and 4) -/

/-- A READ_ID that ends at its context. A first authentication meets the six checks in order: MALFORMED records no identity; WRONG_INK,
DUPLICATE, KEY_ABSENT and KEY_REVOKED quarantine with the identity recorded. A tag that passes them is reconciled with its departed entry, which
stays: used is the larger of the two figures, last_written and the write-back base are the tag's, the level band is computed, the origin
carries the entry's class, the entry's evidence joins without an event, and ROLLBACK, EMPTY_RETURN and MARKED are recorded in that order; the
station goes to AUTHENTICATING and attempt 1 begins with a challenge drawn. A recheck fails with MALFORMED on a wrong check byte or another
serial; a tag below or above last_written is evidence ROLLBACK or CONFLICT, and attempt 1 begins where that left the context. The last NACK of
either quarantines with NO_TAG (R8, R12 to R14, R37, R63, R79, R128, R135, R150, R151, R153). The challenge is the free value of log entry 2. -/
def Obligations.IdentificationChecksTheTag : Prop :=
  ∀ (s : State) (pre post : List Job) (j : Job) (i : Station) (x : AuthContext) (c : CartridgeRecord) (data : List Byte)
    (id : Identity) (capacity h : Nat), serving s → running s .own pre j post → j.kind = .readId → j.target = some i → j.cls = .auth →
    j.followOn = none → j.disowned = false → s.context i = some x → x.step = .read → x.firstJobDue = false →
    (s.station i).cartridge = some c → data.length = 36 →
    id.serial.toNat = be data 0 8 → id.inkType = be data 8 2 → capacity = be data 10 4 → id.keyIndex = be data 14 1 →
    id.fillGeneration = be data 15 1 → id.tagUsed = be data 24 4 → id.tagFlags.emptyLatch = (data.getD 28 0).getLsbD 0 →
    id.tagFlags.refillMark = (data.getD 28 0).getLsbD 1 →
    let outcome := exec (.jobTransactionEnd (.done data)) s
    let ended := s.withBus (released s.bus (pre ++ post))
    let quarantined (o : Host.Outcome State Fault Refusal) (cause : QuarantineCause) (code : Nat) (c' : CartridgeRecord) :=
      goesTo o (toQuarantine ended i c' cause code)
    let begun (t : State) (y : AuthContext) : State := attemptBegun t i { y with digestUsed := some id.tagUsed } h
    let bothSums := ((data.take 24).map (·.toNat)).sum % 256 = 0 ∧ ((data.drop 24).map (·.toNat)).sum % 256 = 0
    let known := { c with
      identity := some id, capacity := some capacity, emptyLatch := id.tagFlags.emptyLatch, refillMark := id.tagFlags.refillMark }
    let sound := bothSums ∧ 1000000 ≤ capacity ∧ capacity ≤ 2000000000 ∧ id.keyIndex ≤ 15
    let rightInk := (s.station i).config.expectedInk = 0 ∨ id.inkType = (s.station i).config.expectedInk
    let elsewhere := ∃ (l : Station) (d : CartridgeRecord) (ld : Identity), l ≠ i ∧ (s.station l).cartridge = some d ∧
      d.identity = some ld ∧ ld.serial = id.serial ∧
      ((s.station l).lifecycle = .identifying ∨ (s.station l).lifecycle = .authenticating ∨ (s.station l).lifecycle = .active ∨
        (s.station l).lifecycle = .quarantined ∨ (s.station l).lifecycle = .departing)
    let slotIs (k : KeyState) := ∃ n : KeySlot, id.keyIndex = n.val ∧ (s.store.keySlots[n]).state = k
    (j.attempts = 1 → quarantined (exec (.jobTransactionEnd .nack) s) .noTag 1 c) ∧
    (x.recheck = false →
      (¬ sound → quarantined outcome .malformed 2 c) ∧
      (sound → ¬ rightInk → quarantined outcome .wrongInk 3 known) ∧
      (sound → rightInk → elsewhere → quarantined outcome .duplicate 4 known) ∧
      (sound → rightInk → ¬ elsewhere → (3 < id.keyIndex ∨ slotIs .empty) → quarantined outcome .keyAbsent 5 known) ∧
      (sound → rightInk → ¬ elsewhere → slotIs .revoked → quarantined outcome .keyRevoked 6 known) ∧
      (sound → rightInk → ¬ elsewhere → slotIs .live → nextFree ended h → c.trust = .pending → c.authenticated = false →
        ∀ e : Option DepartedEntry, (e = none ∧ ∀ d ∈ s.departed.entries, d.serial ≠ id.serial) ∨
            (∃ d, e = some d ∧ d ∈ s.departed.entries ∧ d.serial = id.serial ∧ ∀ d' ∈ s.departed.entries, d'.serial = id.serial → d' = d) →
          let used := match e with | none => id.tagUsed | some d => max d.used id.tagUsed
          let origin : Origin := match e with | none => .new | some d => .restored d.cls
          let held := match e with | none => c.evidence | some d => joinedEvidence c.evidence d.evidence
          let found : List EvidenceKind :=
            (match e with
              | none => if id.tagFlags.emptyLatch then [.emptyReturn] else []
              | some d => if id.tagUsed < d.lastWritten then [.rollback] else [])
            ++ (if id.tagFlags.refillMark then [.marked] else [])
          let c' := { withLevel s.part capacity used known with
            account := some ⟨used, id.tagUsed, id.tagUsed, id.tagFlags⟩, origin := some origin
            evidence := joinedEvidence held (setOf found), refillMark := id.tagFlags.refillMark || !found.isEmpty }
          goesTo outcome (begun
            ((ended.setStation i { s.station i with lifecycle := .authenticating, cartridge := some c' }).withEvents
              (found.foldl (fun q k => q.raise none .refillSuspected (some i) (evidenceNumber k))
                (levelEvents s.part i capacity used known s.events))) x))) ∧
    (x.recheck = true → ∀ (held : Identity) (a : Account), c.identity = some held → c.account = some a →
      (¬ (bothSums ∧ id.serial = held.serial) → quarantined outcome .malformed 2 c) ∧
      (bothSums → id.serial = held.serial →
        (id.tagUsed = a.lastWritten → nextFree ended h → goesTo outcome (begun ended x)) ∧
        (id.tagUsed ≠ a.lastWritten → ∀ y,
          y = ended.recordEvidence i (if id.tagUsed < a.lastWritten then .rollback else .conflict) →
          (y.context i = none → goesTo outcome y) ∧
          (∀ z, y.context i = some z → nextFree y h → goesTo outcome (begun y z)))))

/-- RESPONSE_READ_END with the 8 bytes sends a VERIFY request with the record's and the context's figures to the FIFO's tail, and without
them fails the attempt: RETRY, and at the last NO_ANSWER, which begins attempt 2 or, in it, quarantines with NO_RESPONSE. An abandoned
job's bytes are discarded. VERIFY_COMPUTATION_START takes the FIFO's head where nothing is in computation, with the digest of a LIVE slot's
secret (R44, R48, R65, R66, R68, R69). The digest is the free function of log entry 1. That a start without a request or beside a computation changes
nothing is the model's choice of log entry 9. -/
def Obligations.ResponsesAreSentToTheDigestUnit : Prop :=
  ∀ (s : State) (pre post : List Job) (j : Job) (i : Station) (x : AuthContext) (c : CartridgeRecord) (id : Identity)
    (challenge response : Digest) (used h : Nat), serving s →
    let ended := s.withBus (released s.bus (pre ++ post))
    (running s .own pre j post → j.kind = .response →
      (1 < j.attempts → goesTo (exec (.responseReadEnd none) s)
        (s.withBus (released s.bus (pre ++ inRetry j .nack s.part.pollSpacing :: post)))) ∧
      (j.target = some i → j.cls = .auth → j.followOn = none → j.disowned = false → s.context i = some x → x.step = .response →
        x.firstJobDue = false → (s.station i).cartridge = some c →
        (j.attempts = 1 → nextFree ended h → goesTo (exec (.responseReadEnd none) s) (unanswered ended i x c h)) ∧
        (x.challenge = some challenge → x.digestUsed = some used → c.identity = some id →
          goesTo (exec (.responseReadEnd (some response)) s) (ended.withAuth { s.auth with
            contexts := s.auth.contexts.set i (some { x with step := .verify })
            fifo := s.auth.fifo ++ [⟨i, id.keyIndex, id.serial, challenge, used, id.fillGeneration, response⟩] }))) ∧
      (j.target = some i → j.cls = .auth → j.followOn = none → j.disowned = true → nextFree ended h →
        goesTo (exec (.responseReadEnd (some response)) s) (dueJobQueued ended i h) ∧
        (j.attempts = 1 → goesTo (exec (.responseReadEnd none) s) (dueJobQueued ended i h)))) ∧
    (s.auth.computing ≠ none ∨ s.auth.fifo = [] → goesTo (exec .verifyComputationStart s) s) ∧
    ∀ r rest (k : KeySlot), s.auth.computing = none → s.auth.fifo = r :: rest → r.keyIndex = k.val →
      (s.store.keySlots[k]).state = .live →
      goesTo (exec .verifyComputationStart s) (s.withAuth { s.auth with
        fifo := rest
        computing := some ⟨r, Config.digest (s.store.keySlots[k]).secret r.serial r.challenge r.digestUsed r.fillGeneration, false⟩ })

/-- VERIFY_COMPLETION: a withdrawn request completes without an outcome. A slot REVOKED by then quarantines with KEY_REVOKED. Equal digests
pass: a recheck with RECHECK_PASSED; a first authentication with the flag set, the class by the evidence and the carried class, the departed
entry consumed and the table written where there was one, then the checkpoint written and the context cleared, and last the station QUARANTINED
with REFILL where the class is REFILLED under policy QUARANTINE, and otherwise ACTIVE with the activation transfer of the debt, the checks after
it and ACTIVATED. Unequal ones begin attempt 2 with a fresh challenge, or quarantine with BAD_RESPONSE (R8, R9, R15, R66, R70, R75, R80, R132,
R148, R149). That a completion without a computation changes nothing is the model's choice of log entry 9; the challenge is the free value of
log entry 2; that ACTIVATED is raised also where the transfer's check quarantines at once is log entry 17. -/
def Obligations.CompletionsDecideTheOutcome : Prop :=
  ∀ (s : State) (r : VerifyRequest) (expected : Digest) (withdrawn : Bool) (x : AuthContext) (c : CartridgeRecord) (h : Nat), serving s →
    let i := r.station
    let done := s.withAuth { s.auth with computing := none }
    let revoked := ∃ k : KeySlot, r.keyIndex = k.val ∧ (s.store.keySlots[k]).state = .revoked
    (s.auth.computing = none → goesTo (exec .verifyCompletion s) s) ∧
    (s.auth.computing = some ⟨r, expected, withdrawn⟩ →
      (withdrawn = true ∨ s.context i = none → goesTo (exec .verifyCompletion s) done) ∧
      (withdrawn = false → s.context i = some x → (s.station i).cartridge = some c →
        (revoked → goesTo (exec .verifyCompletion s) (toQuarantine done i c .keyRevoked 6)) ∧
        (¬ revoked → expected = r.response → x.recheck = true →
          goesTo (exec .verifyCompletion s) ((done.setContext i none).raise .recheckPassed (some i) (trustNumber c.trust))) ∧
        (¬ revoked → expected = r.response → x.recheck = false → ∀ id capacity a, c.identity = some id → c.capacity = some capacity →
          c.account = some a →
          let refilled := c.evidence ≠ ⟨false, false, false, false, false, false⟩ ∨ c.origin = some (.restored .refilled)
          let passed := { c with authenticated := true, trust := if refilled then .refilled else .genuine }
          let table := { s.departed with entries := s.departed.entries.filter (fun e => e.serial ≠ id.serial) }
          let consumption : List StoreWrite :=
            if ∃ e ∈ s.departed.entries, e.serial = id.serial then [⟨.departed table, false⟩] else []
          let kept : Checkpoint := ⟨id.serial, id.inkType, capacity, a.used, a.lastWritten,
            if refilled then .refilled else .genuine, c.evidence⟩
          let vouched := (((done.setContext i none).setStation i { s.station i with cartridge := some passed }).withDeparted table).withWrites
            (s.writes ++ consumption ++ [⟨.checkpoint i (some kept), false⟩])
          (refilled → s.part.policy = .quarantine →
            goesTo (exec .verifyCompletion s) (toQuarantine vouched i passed .refill 9)) ∧
          (¬ refilled ∨ s.part.policy = .warn → goesTo (exec .verifyCompletion s) (madeActive vouched i passed a capacity))) ∧
        (¬ revoked → expected ≠ r.response →
          (x.attempt ≠ 1 → goesTo (exec .verifyCompletion s) (toQuarantine done i c .badResponse 8)) ∧
          (x.attempt = 1 → nextFree s h →
            goesTo (exec .verifyCompletion s) (attemptBegun done i { x with attempt := 2, lastEnding := some .mismatch } h)))))

/-! ## The tally receiver (chapter 5) -/

/-- The search for alignment. Every TLC edge restarts the silence timer and ends LINK_SILENT; a rising edge's bit joins the stream, and in
HUNT a position whose 24 bits fail the tests is passed over. HUNT_MATCH, CANDIDATE_TEST and CONFIRM_TEST move HUNT to CANDIDATE, to CONFIRM
and to SYNC on indexes k, k + 1 and k + 2, each one frame length on, and a miss resumes the search at the bit after the marker's first; SYNC
raises LINK_SYNC, ends LINK_LOST and collects from index 0 (R84, R88 to R90, R92). Under HOST an edge does nothing. That a test whose bits
are not all there, and a match that is not found, change nothing is the model's choice of log entry 9; that HUNT passes over failed positions in the step that
brings the bit, and in the step of a miss, is log entry 31. -/
def Obligations.AlignmentNeedsThreeFrames : Prop :=
  ∀ (s : State) (rising tld : Bool) (k : Fin 8), serving s →
    let t := s.tally
    let missed (c : Instr) (bits : List Bool) := ∃ rest, searched bits.tail rest ∧
      goesTo (exec c s) (s.withTally { t with aligner := .hunt, stream := rest })
    (t.source = .host → goesTo (exec (.tlcEdge rising tld) s) s) ∧
    (t.source = .link →
      (rising = false ∨ t.aligner = .off → goesTo (exec (.tlcEdge rising tld) s)
        ((s.withTally { t with silenceTimer := true }).endCondition .linkSilent)) ∧
      (rising = true → t.aligner ≠ .off → t.aligner ≠ .hunt → goesTo (exec (.tlcEdge rising tld) s)
        ((s.withTally { t with silenceTimer := true, stream := t.stream ++ [tld] }).endCondition .linkSilent)) ∧
      (rising = true → t.aligner = .hunt → ∃ rest, searched (t.stream ++ [tld]) rest ∧ goesTo (exec (.tlcEdge rising tld) s)
        ((s.withTally { t with silenceTimer := true, stream := rest }).endCondition .linkSilent))) ∧
    (t.aligner = .hunt →
      (startsFrame t.stream k → goesTo (exec .huntMatch s) (s.withTally { t with aligner := .candidate k })) ∧
      ((∀ n, ¬ startsFrame t.stream n) → goesTo (exec .huntMatch s) s)) ∧
    (t.aligner = .candidate k →
      (t.stream.length < 392 → goesTo (exec .candidateTest s) s) ∧
      (startsFrame (t.stream.drop 368) (k + 1) → goesTo (exec .candidateTest s) (s.withTally { t with aligner := .confirm k })) ∧
      (392 ≤ t.stream.length → ¬ startsFrame (t.stream.drop 368) (k + 1) → missed .candidateTest t.stream)) ∧
    (t.aligner = .confirm k →
      (t.stream.length < 760 → goesTo (exec .confirmTest s) s) ∧
      (startsFrame (t.stream.drop 736) (k + 2) → goesTo (exec .confirmTest s)
        (((s.withTally { t with aligner := .sync (k + 3) (some true), badRun := 0, checkRun := 0,
                                buffer := if k = 6 then some emptyBuffer else none, stream := t.stream.drop 736 }).raise
          .linkSync none (k + 2).val).endCondition .linkLost)) ∧
      (760 ≤ t.stream.length → ¬ startsFrame (t.stream.drop 736) (k + 2) → missed .confirmTest t.stream))

/-- FRAME_JUDGED in SYNC: the position is good where marker and expected index are there, and clears the bad frame run; a bad one adds to
MARKER_ERRORS, which saturates and raises LINK_ERRORS on arriving at its maximum, and to the run, and fails a collecting cycle; at the loss
threshold the cycle is discarded, the search begins after the index byte, and LINK_LOST is raised with value 1. The next position expects
one more, and collection begins where 0 is expected (R91, R93, R100). That the loss searches the kept bits in this same step, and that the next
position waits for the end of a full cycle, are log entry 31. -/
def Obligations.FramePositionsAreJudged : Prop :=
  ∀ (s : State) (e : Fin 8), serving s → s.tally.aligner = .sync e none → 24 ≤ s.tally.stream.length →
    (∀ b, s.tally.buffer = some b → b.positions ≠ 8) →
    let t := s.tally
    let collecting := if t.buffer = none ∧ e = 0 then some emptyBuffer else t.buffer
    let top := counterTop t.config.counterWidth
    let errors := min top (t.markerErrors + 1)
    let counted (x : State) := if t.markerErrors < top ∧ errors = top then x.raiseCondition .linkErrors 1 else x
    (startsFrame t.stream e → goesTo (exec .frameJudged s)
      (s.withTally { t with aligner := .sync (e + 1) (some true), badRun := 0, buffer := collecting })) ∧
    (¬ startsFrame t.stream e → t.badRun + 1 < t.config.lossThreshold → goesTo (exec .frameJudged s)
      (counted (s.withTally { t with
        aligner := .sync (e + 1) (some false), badRun := t.badRun + 1, markerErrors := errors
        buffer := collecting.map (fun b => { b with failed := true }) }))) ∧
    (¬ startsFrame t.stream e → t.config.lossThreshold ≤ t.badRun + 1 → ∃ rest, searched (t.stream.drop 24) rest ∧
      goesTo (exec .frameJudged s)
        ((counted (s.withTally { t with
          aligner := .hunt, badRun := t.badRun + 1, markerErrors := errors, buffer := none, stream := rest })).raiseCondition .linkLost 1))

/-- FRAME_POSITION_COMPLETE takes the judged position's 368 bits: a collecting buffer counts the position and takes bytes 2 to 43 into the
running CRC and bytes 44 and 45 as the check; a good frame's eight slots of four counts join the sums and its byte 43 is the temperature of
the station whose number is its index; a bad frame's are not taken (R85, R86, R93). That a position whose bits are not all there changes
nothing is the model's choice of log entry 9; that a position counts as taken when it is complete is that of log entry 34. -/
def Obligations.CompletePositionsAreTaken : Prop :=
  ∀ (s : State) (e : Fin 8) (good : Bool), serving s → s.tally.aligner = .sync e (some good) →
    let t := s.tally
    let after (buffer : Option CycleBuffer) :=
      s.withTally { t with aligner := .sync e none, buffer, stream := t.stream.drop 368 }
    (t.stream.length < 368 → goesTo (exec .framePositionComplete s) s) ∧
    (368 ≤ t.stream.length → t.buffer = none → goesTo (exec .framePositionComplete s) (after none)) ∧
    (∀ b, 368 ≤ t.stream.length → t.buffer = some b → ∃ b', goesTo (exec .framePositionComplete s) (after (some b')) ∧
      b'.positions = b.positions + 1 ∧ b'.failed = b.failed ∧ b'.crc = crcExtend b.crc (frameBytes t.stream 2 42) ∧
      b'.carried.toNat = spelled ((t.stream.drop 352).take 16) ∧
      (good = true →
        (∀ i : Station, b'.sums[i] = ⟨(b.sums[i]).small + frameCount t.stream i 0, (b.sums[i]).medium + frameCount t.stream i 1,
          (b.sums[i]).large + frameCount t.stream i 2, (b.sums[i]).service + frameCount t.stream i 3⟩) ∧
        let byte := spelled ((t.stream.drop 344).take 8)
        b'.temps = b.temps.set (e - 1 : Fin 8).val (some (if byte = 255 then .sensorFault else .degrees (min 200 byte)))) ∧
      (good = false → b'.sums = b.sums ∧ b'.temps = b.temps))

/-- CYCLE_END decides a cycle of eight positions. A good check with no bad frame is committed as actual: the cycle is handed on, becomes the
last-good copy, sets the estimate run to 0, ends METER_GAP and restarts the cycle timer. Otherwise an estimate is attempted: below the hold
limit the last-good copy is handed on without temperatures, counted in run and total; at it METER_GAP is raised. A failed check adds to
CHECK_ERRORS and to its run, and at a run of 4 alignment is lost with value 2; otherwise the next cycle is collected. CYCLE_TIMER_EXPIRY
restarts a running timer in SYNC, and outside SYNC attempts an estimate first; SILENCE_TIMER_EXPIRY raises LINK_SILENT once per silence; a
stopped timer does nothing (R92, R94, R95, R97, R98, R100). That a cycle's end before its eighth position, and an expiry without the timer,
change nothing is the model's choice of log entry 9; that a loss searches the kept bits in this same step is log entry 31. -/
def Obligations.CyclesAreCommittedOrEstimated : Prop :=
  ∀ (s : State), serving s →
    let t := s.tally
    let timer := some (t.config.nominalPeriod * 3 / 2)
    let estimated (x : State) := if t.estimateRun < t.config.holdLimit
      then (x.withMeter (handedOn s.meter ⟨t.lastGood, none⟩)).withTally { x.tally with
        estimateRun := t.estimateRun + 1, estimatedTotal := min 4294967295 (t.estimatedTotal + 1), cycleTimer := timer }
      else x.raiseCondition .meterGap t.estimateRun
    let top := counterTop t.config.counterWidth
    let errors := min top (t.checkErrors + 1)
    let failed (x : Tally) : State :=
      let counted := s.withTally { x with checkErrors := errors, checkRun := t.checkRun + 1 }
      if t.checkErrors < top ∧ errors = top then counted.raiseCondition .linkErrors 2 else counted
    (∀ b : CycleBuffer, t.source = .link → t.buffer = some b →
      (b.positions ≠ 8 → goesTo (exec .cycleEnd s) s) ∧
      (b.positions = 8 →
        (b.crc = b.carried → b.failed = false → ∀ temps : Vector TempReading 8, (∀ i : Station, b.temps[i] = some temps[i]) →
          goesTo (exec .cycleEnd s)
            (((s.withMeter (handedOn s.meter ⟨b.sums, some temps⟩)).withTally { t with
              checkRun := 0, lastGood := b.sums, estimateRun := 0, cycleTimer := timer, buffer := some emptyBuffer }).endCondition
              .meterGap)) ∧
        (b.crc = b.carried → b.failed = true →
          goesTo (exec .cycleEnd s) (estimated (s.withTally { t with checkRun := 0, buffer := some emptyBuffer }))) ∧
        (b.crc ≠ b.carried → t.checkRun + 1 < 4 →
          goesTo (exec .cycleEnd s) (estimated (failed { t with buffer := some emptyBuffer }))) ∧
        (b.crc ≠ b.carried → 4 ≤ t.checkRun + 1 → ∃ rest, searched t.stream rest ∧
          goesTo (exec .cycleEnd s)
            ((estimated (failed { t with buffer := none, aligner := .hunt, stream := rest })).raiseCondition .linkLost 2)))) ∧
    (t.buffer = none → goesTo (exec .cycleEnd s) s) ∧
    (t.cycleTimer = none → goesTo (exec .cycleTimerExpiry s) s) ∧
    (t.source = .link → t.cycleTimer ≠ none →
      (∀ e judged, t.aligner = .sync e judged → goesTo (exec .cycleTimerExpiry s) (s.withTally { t with cycleTimer := timer })) ∧
      (t.aligner = .hunt ∨ (∃ k, t.aligner = .candidate k ∨ t.aligner = .confirm k) →
        (t.estimateRun < t.config.holdLimit → goesTo (exec .cycleTimerExpiry s)
          ((s.withMeter (handedOn s.meter ⟨t.lastGood, none⟩)).withTally { t with
            estimateRun := t.estimateRun + 1, estimatedTotal := min 4294967295 (t.estimatedTotal + 1), cycleTimer := timer })) ∧
        (t.config.holdLimit ≤ t.estimateRun → goesTo (exec .cycleTimerExpiry s)
          ((s.withTally { t with cycleTimer := timer }).raiseCondition .meterGap t.estimateRun)))) ∧
    (t.silenceTimer = true → goesTo (exec .silenceTimerExpiry s)
      ((s.withTally { t with silenceTimer := false }).raiseCondition .linkSilent 0)) ∧
    (t.silenceTimer = false → goesTo (exec .silenceTimerExpiry s) s)

/-! ## The metering unit (chapter 6) -/

/-- CYCLE_COMPUTATION takes the oldest pending cycle, in HALTED too. At every station its counts join the saturating lifetime drops; an
ACTUAL cycle's temperature ends TEMP_FAULT and moves the band up to a threshold it reaches and down past one it lies more than 2 degrees
below, with TEMP_BAND for a band that moved; a sensor fault holds the band and raises TEMP_FAULT with it. The drops' volume, 0 under an invalid
table, which raises UNCALIBRATED with the sum of the counts where there are any, is scaled by the band's factor to the nearest vu and held to
the ceiling, with METER_CLAMPED and the volume before it where it lies above; it joins the fraction, whose whole nanolitres are counted and
delivered (R110 to R118). Debt, charges and configuration stay. That nothing happens without a pending cycle is the model's choice of log
entry 9; that the eight stations are computed in one step is log entry 20; that a temperature ends TEMP_FAULT in HALTED too is log entry 37. -/
def Obligations.CyclesBecomeWholeNanolitres : Prop :=
  ∀ (s : State) (c : CommittedCycle) (rest : List CommittedCycle), up s →
    let sum (i : Station) : Nat := (c.counts[i]).small + (c.counts[i]).medium + (c.counts[i]).large + (c.counts[i]).service
    let scaled (i : Station) (band : Fin 5) : Nat :=
      let r := s.station i
      let n := c.counts[i]
      ((if r.volumes.valid then n.small * r.volumes.volumes.small + n.medium * r.volumes.volumes.medium
        + n.large * r.volumes.volumes.large + n.service * r.volumes.volumes.service else 0) * r.volumes.factors[band] + 128) / 256
    (s.meter.cycles = [] → goesTo (exec .cycleComputation s) s) ∧
    (s.meter.cycles = c :: rest → ∃ t, goesTo (exec .cycleComputation s) t ∧ t.meter.cycles = rest ∧
      t.tally = s.tally ∧ t.bus = s.bus ∧ t.store = s.store ∧ t.writes = s.writes ∧ t.departed = s.departed ∧ t.link = s.link ∧
      (∀ i : Station, ∃ m : Metering,
        let r := s.station i
        let n := c.counts[i]
        let p := s.part
        let volume := min (scaled i m.band) r.config.cycleCeiling
        let whole := (r.meter.fraction + volume) / 16000
        t.station i = { r with meter := m } ∧
        m.lifetime = ⟨min 281474976710655 (r.meter.lifetime.small + n.small), min 281474976710655 (r.meter.lifetime.medium + n.medium),
          min 281474976710655 (r.meter.lifetime.large + n.large), min 281474976710655 (r.meter.lifetime.service + n.service)⟩ ∧
        (c.temps = none → m.band = r.meter.band ∧ m.lastTemp = r.meter.lastTemp ∧ m.tempFault = r.meter.tempFault ∧
          m.bandChanged = r.meter.bandChanged) ∧
        (∀ temps, c.temps = some temps → temps[i] = .sensorFault → m.band = r.meter.band ∧ m.lastTemp = r.meter.lastTemp ∧
          m.tempFault = true ∧ m.bandChanged = r.meter.bandChanged) ∧
        (∀ temps d, c.temps = some temps → temps[i] = .degrees d → p.t1 < p.t2 → p.t2 < p.t3 → p.t3 < p.t4 →
          m.lastTemp = some d ∧ m.tempFault = false ∧ m.bandChanged = (r.meter.bandChanged || decide (m.band ≠ r.meter.band)) ∧
          let reached : Nat := if p.t4 ≤ d then 4 else if p.t3 ≤ d then 3 else if p.t2 ≤ d then 2 else if p.t1 ≤ d then 1 else 0
          let kept : Nat := if p.t4 ≤ d + 2 then 4 else if p.t3 ≤ d + 2 then 3 else if p.t2 ≤ d + 2 then 2
            else if p.t1 ≤ d + 2 then 1 else 0
          m.band.val = max reached (min kept r.meter.band.val)) ∧
        m.fraction = (r.meter.fraction + volume) % 16000 ∧ m.converted = min 4294967295 (r.meter.converted + whole) ∧
        m.clamped = (r.meter.clamped || decide (r.config.cycleCeiling < scaled i m.band)) ∧
        m.charged = r.meter.charged ∧ m.debt = r.meter.debt ∧ m.dryOverflow = r.meter.dryOverflow ∧
        t.meter.deliveries.filter (fun d => d.station = i) =
          s.meter.deliveries.filter (fun d => d.station = i) ++ (if whole = 0 then [] else [⟨i, whole⟩])) ∧
      let reports (x : State) (i : Station) : State :=
        let r := s.station i
        let band := (t.station i).meter.band
        let x1 := match c.temps.map (fun temps => temps[i]) with
          | none => x
          | some .sensorFault => x.raiseCondition (.tempFault i) r.meter.band.val
          | some (.degrees _) =>
            let y := x.endCondition (.tempFault i)
            if band = r.meter.band then y else y.raise .tempBand (some i) band.val
        let x2 := if r.volumes.valid = false ∧ sum i ≠ 0 then x1.raiseCondition (.uncalibrated i) (sum i) else x1
        if r.config.cycleCeiling < scaled i band then x2.raise .meterClamped (some i) (scaled i band) else x2
      let reported := ([0, 1, 2, 3, 4, 5, 6, 7] : List Station).foldl reports s
      t.events = reported.events ∧ t.standing = reported.standing)

/-! ## What every step keeps -/

/-- Every step keeps the event queue within its places with one entry a pair, the departed table, held, stored and waiting to be stored,
within its places with one entry a serial in the order of rising sequences, the receive buffer within two frames and the pending store
within two cycles (R110, R145, R146, R164, R173). -/
def Obligations.StepsKeepTheQueuesAndTables : Prop :=
  ∀ s t : State, goesTo (step s) t →
    (QueueInv s.events → QueueInv t.events) ∧ (TablesInv s → TablesInv t) ∧ (PlacesInv s → PlacesInv t)

/-- Every step keeps the conservation law at every station, the fraction accumulators below a nanolitre, and the debt within the swap
reserve and at 0 in ACTIVE (R108, R122, R131). The deliveries under way that the law counts are those of log entry 20. -/
def Obligations.StepsConserveTheVolume : Prop :=
  ∀ s t : State, goesTo (step s) t →
    (Conserved s → Conserved t) ∧ (FractionInv s → FractionInv t) ∧ (DebtInv s → DebtInv t)

/-- Every step keeps what each lifecycle state says of a station's record, context and timers, the VERIFY requests with the contexts that wait
for them, and the law that no ACTIVE station holds a cartridge of a REVOKED key slot (R7, R10, R21, R69, R74). -/
def Obligations.StepsKeepTheTrustLaws : Prop := ∀ s t : State, goesTo (step s) t → TrustInv s → TrustInv t

/-- The state after reset has all of these properties. The state is that of log entry 23. -/
def Obligations.ResetHasEveryInvariant : Prop :=
  QueueInv State.reset.events ∧ TablesInv State.reset ∧ PlacesInv State.reset ∧ Conserved State.reset ∧ FractionInv State.reset ∧
    DebtInv State.reset ∧ TrustInv State.reset
end

