-- ==== Sys2Proof/Laws/State.lean ====
section
/-! SUPPORT. The small lemmas of the state's updates: one per field per update, and the reading of one station's record after a write. -/

namespace Sys2Proof.Machine

section
variable (s : State) (x : Bool)
@[simp] theorem State.withPowered_powered : (s.withPowered x).powered = x := rfl
@[simp] theorem State.withPowered_resetN : (s.withPowered x).resetN = s.resetN := rfl
@[simp] theorem State.withPowered_presence : (s.withPowered x).presence = s.presence := rfl
@[simp] theorem State.withPowered_inkInputs : (s.withPowered x).inkInputs = s.inkInputs := rfl
@[simp] theorem State.withPowered_operating : (s.withPowered x).operating = s.operating := rfl
@[simp] theorem State.withPowered_link : (s.withPowered x).link = s.link := rfl
@[simp] theorem State.withPowered_stations : (s.withPowered x).stations = s.stations := rfl
@[simp] theorem State.withPowered_bus : (s.withPowered x).bus = s.bus := rfl
@[simp] theorem State.withPowered_auth : (s.withPowered x).auth = s.auth := rfl
@[simp] theorem State.withPowered_tally : (s.withPowered x).tally = s.tally := rfl
@[simp] theorem State.withPowered_meter : (s.withPowered x).meter = s.meter := rfl
@[simp] theorem State.withPowered_part : (s.withPowered x).part = s.part := rfl
@[simp] theorem State.withPowered_departed : (s.withPowered x).departed = s.departed := rfl
@[simp] theorem State.withPowered_events : (s.withPowered x).events = s.events := rfl
@[simp] theorem State.withPowered_standing : (s.withPowered x).standing = s.standing := rfl
@[simp] theorem State.withPowered_store : (s.withPowered x).store = s.store := rfl
@[simp] theorem State.withPowered_writes : (s.withPowered x).writes = s.writes := rfl
@[simp] theorem State.withPowered_draws : (s.withPowered x).draws = s.draws := rfl
@[simp] theorem State.withPowered_pending : (s.withPowered x).pending = s.pending := rfl
end

section
variable (s : State) (x : Bool)
@[simp] theorem State.withResetN_powered : (s.withResetN x).powered = s.powered := rfl
@[simp] theorem State.withResetN_resetN : (s.withResetN x).resetN = x := rfl
@[simp] theorem State.withResetN_presence : (s.withResetN x).presence = s.presence := rfl
@[simp] theorem State.withResetN_inkInputs : (s.withResetN x).inkInputs = s.inkInputs := rfl
@[simp] theorem State.withResetN_operating : (s.withResetN x).operating = s.operating := rfl
@[simp] theorem State.withResetN_link : (s.withResetN x).link = s.link := rfl
@[simp] theorem State.withResetN_stations : (s.withResetN x).stations = s.stations := rfl
@[simp] theorem State.withResetN_bus : (s.withResetN x).bus = s.bus := rfl
@[simp] theorem State.withResetN_auth : (s.withResetN x).auth = s.auth := rfl
@[simp] theorem State.withResetN_tally : (s.withResetN x).tally = s.tally := rfl
@[simp] theorem State.withResetN_meter : (s.withResetN x).meter = s.meter := rfl
@[simp] theorem State.withResetN_part : (s.withResetN x).part = s.part := rfl
@[simp] theorem State.withResetN_departed : (s.withResetN x).departed = s.departed := rfl
@[simp] theorem State.withResetN_events : (s.withResetN x).events = s.events := rfl
@[simp] theorem State.withResetN_standing : (s.withResetN x).standing = s.standing := rfl
@[simp] theorem State.withResetN_store : (s.withResetN x).store = s.store := rfl
@[simp] theorem State.withResetN_writes : (s.withResetN x).writes = s.writes := rfl
@[simp] theorem State.withResetN_draws : (s.withResetN x).draws = s.draws := rfl
@[simp] theorem State.withResetN_pending : (s.withResetN x).pending = s.pending := rfl
end

section
variable (s : State) (x : Vector Bool 8)
@[simp] theorem State.withPresence_powered : (s.withPresence x).powered = s.powered := rfl
@[simp] theorem State.withPresence_resetN : (s.withPresence x).resetN = s.resetN := rfl
@[simp] theorem State.withPresence_presence : (s.withPresence x).presence = x := rfl
@[simp] theorem State.withPresence_inkInputs : (s.withPresence x).inkInputs = s.inkInputs := rfl
@[simp] theorem State.withPresence_operating : (s.withPresence x).operating = s.operating := rfl
@[simp] theorem State.withPresence_link : (s.withPresence x).link = s.link := rfl
@[simp] theorem State.withPresence_stations : (s.withPresence x).stations = s.stations := rfl
@[simp] theorem State.withPresence_bus : (s.withPresence x).bus = s.bus := rfl
@[simp] theorem State.withPresence_auth : (s.withPresence x).auth = s.auth := rfl
@[simp] theorem State.withPresence_tally : (s.withPresence x).tally = s.tally := rfl
@[simp] theorem State.withPresence_meter : (s.withPresence x).meter = s.meter := rfl
@[simp] theorem State.withPresence_part : (s.withPresence x).part = s.part := rfl
@[simp] theorem State.withPresence_departed : (s.withPresence x).departed = s.departed := rfl
@[simp] theorem State.withPresence_events : (s.withPresence x).events = s.events := rfl
@[simp] theorem State.withPresence_standing : (s.withPresence x).standing = s.standing := rfl
@[simp] theorem State.withPresence_store : (s.withPresence x).store = s.store := rfl
@[simp] theorem State.withPresence_writes : (s.withPresence x).writes = s.writes := rfl
@[simp] theorem State.withPresence_draws : (s.withPresence x).draws = s.draws := rfl
@[simp] theorem State.withPresence_pending : (s.withPresence x).pending = s.pending := rfl
end

section
variable (s : State) (x : Vector Bool 8)
@[simp] theorem State.withInkInputs_powered : (s.withInkInputs x).powered = s.powered := rfl
@[simp] theorem State.withInkInputs_resetN : (s.withInkInputs x).resetN = s.resetN := rfl
@[simp] theorem State.withInkInputs_presence : (s.withInkInputs x).presence = s.presence := rfl
@[simp] theorem State.withInkInputs_inkInputs : (s.withInkInputs x).inkInputs = x := rfl
@[simp] theorem State.withInkInputs_operating : (s.withInkInputs x).operating = s.operating := rfl
@[simp] theorem State.withInkInputs_link : (s.withInkInputs x).link = s.link := rfl
@[simp] theorem State.withInkInputs_stations : (s.withInkInputs x).stations = s.stations := rfl
@[simp] theorem State.withInkInputs_bus : (s.withInkInputs x).bus = s.bus := rfl
@[simp] theorem State.withInkInputs_auth : (s.withInkInputs x).auth = s.auth := rfl
@[simp] theorem State.withInkInputs_tally : (s.withInkInputs x).tally = s.tally := rfl
@[simp] theorem State.withInkInputs_meter : (s.withInkInputs x).meter = s.meter := rfl
@[simp] theorem State.withInkInputs_part : (s.withInkInputs x).part = s.part := rfl
@[simp] theorem State.withInkInputs_departed : (s.withInkInputs x).departed = s.departed := rfl
@[simp] theorem State.withInkInputs_events : (s.withInkInputs x).events = s.events := rfl
@[simp] theorem State.withInkInputs_standing : (s.withInkInputs x).standing = s.standing := rfl
@[simp] theorem State.withInkInputs_store : (s.withInkInputs x).store = s.store := rfl
@[simp] theorem State.withInkInputs_writes : (s.withInkInputs x).writes = s.writes := rfl
@[simp] theorem State.withInkInputs_draws : (s.withInkInputs x).draws = s.draws := rfl
@[simp] theorem State.withInkInputs_pending : (s.withInkInputs x).pending = s.pending := rfl
end

section
variable (s : State) (x : OperatingState)
@[simp] theorem State.withOperating_powered : (s.withOperating x).powered = s.powered := rfl
@[simp] theorem State.withOperating_resetN : (s.withOperating x).resetN = s.resetN := rfl
@[simp] theorem State.withOperating_presence : (s.withOperating x).presence = s.presence := rfl
@[simp] theorem State.withOperating_inkInputs : (s.withOperating x).inkInputs = s.inkInputs := rfl
@[simp] theorem State.withOperating_operating : (s.withOperating x).operating = x := rfl
@[simp] theorem State.withOperating_link : (s.withOperating x).link = s.link := rfl
@[simp] theorem State.withOperating_stations : (s.withOperating x).stations = s.stations := rfl
@[simp] theorem State.withOperating_bus : (s.withOperating x).bus = s.bus := rfl
@[simp] theorem State.withOperating_auth : (s.withOperating x).auth = s.auth := rfl
@[simp] theorem State.withOperating_tally : (s.withOperating x).tally = s.tally := rfl
@[simp] theorem State.withOperating_meter : (s.withOperating x).meter = s.meter := rfl
@[simp] theorem State.withOperating_part : (s.withOperating x).part = s.part := rfl
@[simp] theorem State.withOperating_departed : (s.withOperating x).departed = s.departed := rfl
@[simp] theorem State.withOperating_events : (s.withOperating x).events = s.events := rfl
@[simp] theorem State.withOperating_standing : (s.withOperating x).standing = s.standing := rfl
@[simp] theorem State.withOperating_store : (s.withOperating x).store = s.store := rfl
@[simp] theorem State.withOperating_writes : (s.withOperating x).writes = s.writes := rfl
@[simp] theorem State.withOperating_draws : (s.withOperating x).draws = s.draws := rfl
@[simp] theorem State.withOperating_pending : (s.withOperating x).pending = s.pending := rfl
end

section
variable (s : State) (x : HostLink)
@[simp] theorem State.withLink_powered : (s.withLink x).powered = s.powered := rfl
@[simp] theorem State.withLink_resetN : (s.withLink x).resetN = s.resetN := rfl
@[simp] theorem State.withLink_presence : (s.withLink x).presence = s.presence := rfl
@[simp] theorem State.withLink_inkInputs : (s.withLink x).inkInputs = s.inkInputs := rfl
@[simp] theorem State.withLink_operating : (s.withLink x).operating = s.operating := rfl
@[simp] theorem State.withLink_link : (s.withLink x).link = x := rfl
@[simp] theorem State.withLink_stations : (s.withLink x).stations = s.stations := rfl
@[simp] theorem State.withLink_bus : (s.withLink x).bus = s.bus := rfl
@[simp] theorem State.withLink_auth : (s.withLink x).auth = s.auth := rfl
@[simp] theorem State.withLink_tally : (s.withLink x).tally = s.tally := rfl
@[simp] theorem State.withLink_meter : (s.withLink x).meter = s.meter := rfl
@[simp] theorem State.withLink_part : (s.withLink x).part = s.part := rfl
@[simp] theorem State.withLink_departed : (s.withLink x).departed = s.departed := rfl
@[simp] theorem State.withLink_events : (s.withLink x).events = s.events := rfl
@[simp] theorem State.withLink_standing : (s.withLink x).standing = s.standing := rfl
@[simp] theorem State.withLink_store : (s.withLink x).store = s.store := rfl
@[simp] theorem State.withLink_writes : (s.withLink x).writes = s.writes := rfl
@[simp] theorem State.withLink_draws : (s.withLink x).draws = s.draws := rfl
@[simp] theorem State.withLink_pending : (s.withLink x).pending = s.pending := rfl
end

section
variable (s : State) (x : Vector StationRec 8)
@[simp] theorem State.withStations_powered : (s.withStations x).powered = s.powered := rfl
@[simp] theorem State.withStations_resetN : (s.withStations x).resetN = s.resetN := rfl
@[simp] theorem State.withStations_presence : (s.withStations x).presence = s.presence := rfl
@[simp] theorem State.withStations_inkInputs : (s.withStations x).inkInputs = s.inkInputs := rfl
@[simp] theorem State.withStations_operating : (s.withStations x).operating = s.operating := rfl
@[simp] theorem State.withStations_link : (s.withStations x).link = s.link := rfl
@[simp] theorem State.withStations_stations : (s.withStations x).stations = x := rfl
@[simp] theorem State.withStations_bus : (s.withStations x).bus = s.bus := rfl
@[simp] theorem State.withStations_auth : (s.withStations x).auth = s.auth := rfl
@[simp] theorem State.withStations_tally : (s.withStations x).tally = s.tally := rfl
@[simp] theorem State.withStations_meter : (s.withStations x).meter = s.meter := rfl
@[simp] theorem State.withStations_part : (s.withStations x).part = s.part := rfl
@[simp] theorem State.withStations_departed : (s.withStations x).departed = s.departed := rfl
@[simp] theorem State.withStations_events : (s.withStations x).events = s.events := rfl
@[simp] theorem State.withStations_standing : (s.withStations x).standing = s.standing := rfl
@[simp] theorem State.withStations_store : (s.withStations x).store = s.store := rfl
@[simp] theorem State.withStations_writes : (s.withStations x).writes = s.writes := rfl
@[simp] theorem State.withStations_draws : (s.withStations x).draws = s.draws := rfl
@[simp] theorem State.withStations_pending : (s.withStations x).pending = s.pending := rfl
end

section
variable (s : State) (x : Bus)
@[simp] theorem State.withBus_powered : (s.withBus x).powered = s.powered := rfl
@[simp] theorem State.withBus_resetN : (s.withBus x).resetN = s.resetN := rfl
@[simp] theorem State.withBus_presence : (s.withBus x).presence = s.presence := rfl
@[simp] theorem State.withBus_inkInputs : (s.withBus x).inkInputs = s.inkInputs := rfl
@[simp] theorem State.withBus_operating : (s.withBus x).operating = s.operating := rfl
@[simp] theorem State.withBus_link : (s.withBus x).link = s.link := rfl
@[simp] theorem State.withBus_stations : (s.withBus x).stations = s.stations := rfl
@[simp] theorem State.withBus_bus : (s.withBus x).bus = x := rfl
@[simp] theorem State.withBus_auth : (s.withBus x).auth = s.auth := rfl
@[simp] theorem State.withBus_tally : (s.withBus x).tally = s.tally := rfl
@[simp] theorem State.withBus_meter : (s.withBus x).meter = s.meter := rfl
@[simp] theorem State.withBus_part : (s.withBus x).part = s.part := rfl
@[simp] theorem State.withBus_departed : (s.withBus x).departed = s.departed := rfl
@[simp] theorem State.withBus_events : (s.withBus x).events = s.events := rfl
@[simp] theorem State.withBus_standing : (s.withBus x).standing = s.standing := rfl
@[simp] theorem State.withBus_store : (s.withBus x).store = s.store := rfl
@[simp] theorem State.withBus_writes : (s.withBus x).writes = s.writes := rfl
@[simp] theorem State.withBus_draws : (s.withBus x).draws = s.draws := rfl
@[simp] theorem State.withBus_pending : (s.withBus x).pending = s.pending := rfl
end

section
variable (s : State) (x : Auth)
@[simp] theorem State.withAuth_powered : (s.withAuth x).powered = s.powered := rfl
@[simp] theorem State.withAuth_resetN : (s.withAuth x).resetN = s.resetN := rfl
@[simp] theorem State.withAuth_presence : (s.withAuth x).presence = s.presence := rfl
@[simp] theorem State.withAuth_inkInputs : (s.withAuth x).inkInputs = s.inkInputs := rfl
@[simp] theorem State.withAuth_operating : (s.withAuth x).operating = s.operating := rfl
@[simp] theorem State.withAuth_link : (s.withAuth x).link = s.link := rfl
@[simp] theorem State.withAuth_stations : (s.withAuth x).stations = s.stations := rfl
@[simp] theorem State.withAuth_bus : (s.withAuth x).bus = s.bus := rfl
@[simp] theorem State.withAuth_auth : (s.withAuth x).auth = x := rfl
@[simp] theorem State.withAuth_tally : (s.withAuth x).tally = s.tally := rfl
@[simp] theorem State.withAuth_meter : (s.withAuth x).meter = s.meter := rfl
@[simp] theorem State.withAuth_part : (s.withAuth x).part = s.part := rfl
@[simp] theorem State.withAuth_departed : (s.withAuth x).departed = s.departed := rfl
@[simp] theorem State.withAuth_events : (s.withAuth x).events = s.events := rfl
@[simp] theorem State.withAuth_standing : (s.withAuth x).standing = s.standing := rfl
@[simp] theorem State.withAuth_store : (s.withAuth x).store = s.store := rfl
@[simp] theorem State.withAuth_writes : (s.withAuth x).writes = s.writes := rfl
@[simp] theorem State.withAuth_draws : (s.withAuth x).draws = s.draws := rfl
@[simp] theorem State.withAuth_pending : (s.withAuth x).pending = s.pending := rfl
end

section
variable (s : State) (x : Tally)
@[simp] theorem State.withTally_powered : (s.withTally x).powered = s.powered := rfl
@[simp] theorem State.withTally_resetN : (s.withTally x).resetN = s.resetN := rfl
@[simp] theorem State.withTally_presence : (s.withTally x).presence = s.presence := rfl
@[simp] theorem State.withTally_inkInputs : (s.withTally x).inkInputs = s.inkInputs := rfl
@[simp] theorem State.withTally_operating : (s.withTally x).operating = s.operating := rfl
@[simp] theorem State.withTally_link : (s.withTally x).link = s.link := rfl
@[simp] theorem State.withTally_stations : (s.withTally x).stations = s.stations := rfl
@[simp] theorem State.withTally_bus : (s.withTally x).bus = s.bus := rfl
@[simp] theorem State.withTally_auth : (s.withTally x).auth = s.auth := rfl
@[simp] theorem State.withTally_tally : (s.withTally x).tally = x := rfl
@[simp] theorem State.withTally_meter : (s.withTally x).meter = s.meter := rfl
@[simp] theorem State.withTally_part : (s.withTally x).part = s.part := rfl
@[simp] theorem State.withTally_departed : (s.withTally x).departed = s.departed := rfl
@[simp] theorem State.withTally_events : (s.withTally x).events = s.events := rfl
@[simp] theorem State.withTally_standing : (s.withTally x).standing = s.standing := rfl
@[simp] theorem State.withTally_store : (s.withTally x).store = s.store := rfl
@[simp] theorem State.withTally_writes : (s.withTally x).writes = s.writes := rfl
@[simp] theorem State.withTally_draws : (s.withTally x).draws = s.draws := rfl
@[simp] theorem State.withTally_pending : (s.withTally x).pending = s.pending := rfl
end

section
variable (s : State) (x : MeterUnit)
@[simp] theorem State.withMeter_powered : (s.withMeter x).powered = s.powered := rfl
@[simp] theorem State.withMeter_resetN : (s.withMeter x).resetN = s.resetN := rfl
@[simp] theorem State.withMeter_presence : (s.withMeter x).presence = s.presence := rfl
@[simp] theorem State.withMeter_inkInputs : (s.withMeter x).inkInputs = s.inkInputs := rfl
@[simp] theorem State.withMeter_operating : (s.withMeter x).operating = s.operating := rfl
@[simp] theorem State.withMeter_link : (s.withMeter x).link = s.link := rfl
@[simp] theorem State.withMeter_stations : (s.withMeter x).stations = s.stations := rfl
@[simp] theorem State.withMeter_bus : (s.withMeter x).bus = s.bus := rfl
@[simp] theorem State.withMeter_auth : (s.withMeter x).auth = s.auth := rfl
@[simp] theorem State.withMeter_tally : (s.withMeter x).tally = s.tally := rfl
@[simp] theorem State.withMeter_meter : (s.withMeter x).meter = x := rfl
@[simp] theorem State.withMeter_part : (s.withMeter x).part = s.part := rfl
@[simp] theorem State.withMeter_departed : (s.withMeter x).departed = s.departed := rfl
@[simp] theorem State.withMeter_events : (s.withMeter x).events = s.events := rfl
@[simp] theorem State.withMeter_standing : (s.withMeter x).standing = s.standing := rfl
@[simp] theorem State.withMeter_store : (s.withMeter x).store = s.store := rfl
@[simp] theorem State.withMeter_writes : (s.withMeter x).writes = s.writes := rfl
@[simp] theorem State.withMeter_draws : (s.withMeter x).draws = s.draws := rfl
@[simp] theorem State.withMeter_pending : (s.withMeter x).pending = s.pending := rfl
end

section
variable (s : State) (x : PartConfig)
@[simp] theorem State.withPart_powered : (s.withPart x).powered = s.powered := rfl
@[simp] theorem State.withPart_resetN : (s.withPart x).resetN = s.resetN := rfl
@[simp] theorem State.withPart_presence : (s.withPart x).presence = s.presence := rfl
@[simp] theorem State.withPart_inkInputs : (s.withPart x).inkInputs = s.inkInputs := rfl
@[simp] theorem State.withPart_operating : (s.withPart x).operating = s.operating := rfl
@[simp] theorem State.withPart_link : (s.withPart x).link = s.link := rfl
@[simp] theorem State.withPart_stations : (s.withPart x).stations = s.stations := rfl
@[simp] theorem State.withPart_bus : (s.withPart x).bus = s.bus := rfl
@[simp] theorem State.withPart_auth : (s.withPart x).auth = s.auth := rfl
@[simp] theorem State.withPart_tally : (s.withPart x).tally = s.tally := rfl
@[simp] theorem State.withPart_meter : (s.withPart x).meter = s.meter := rfl
@[simp] theorem State.withPart_part : (s.withPart x).part = x := rfl
@[simp] theorem State.withPart_departed : (s.withPart x).departed = s.departed := rfl
@[simp] theorem State.withPart_events : (s.withPart x).events = s.events := rfl
@[simp] theorem State.withPart_standing : (s.withPart x).standing = s.standing := rfl
@[simp] theorem State.withPart_store : (s.withPart x).store = s.store := rfl
@[simp] theorem State.withPart_writes : (s.withPart x).writes = s.writes := rfl
@[simp] theorem State.withPart_draws : (s.withPart x).draws = s.draws := rfl
@[simp] theorem State.withPart_pending : (s.withPart x).pending = s.pending := rfl
end

section
variable (s : State) (x : DepartedTable)
@[simp] theorem State.withDeparted_powered : (s.withDeparted x).powered = s.powered := rfl
@[simp] theorem State.withDeparted_resetN : (s.withDeparted x).resetN = s.resetN := rfl
@[simp] theorem State.withDeparted_presence : (s.withDeparted x).presence = s.presence := rfl
@[simp] theorem State.withDeparted_inkInputs : (s.withDeparted x).inkInputs = s.inkInputs := rfl
@[simp] theorem State.withDeparted_operating : (s.withDeparted x).operating = s.operating := rfl
@[simp] theorem State.withDeparted_link : (s.withDeparted x).link = s.link := rfl
@[simp] theorem State.withDeparted_stations : (s.withDeparted x).stations = s.stations := rfl
@[simp] theorem State.withDeparted_bus : (s.withDeparted x).bus = s.bus := rfl
@[simp] theorem State.withDeparted_auth : (s.withDeparted x).auth = s.auth := rfl
@[simp] theorem State.withDeparted_tally : (s.withDeparted x).tally = s.tally := rfl
@[simp] theorem State.withDeparted_meter : (s.withDeparted x).meter = s.meter := rfl
@[simp] theorem State.withDeparted_part : (s.withDeparted x).part = s.part := rfl
@[simp] theorem State.withDeparted_departed : (s.withDeparted x).departed = x := rfl
@[simp] theorem State.withDeparted_events : (s.withDeparted x).events = s.events := rfl
@[simp] theorem State.withDeparted_standing : (s.withDeparted x).standing = s.standing := rfl
@[simp] theorem State.withDeparted_store : (s.withDeparted x).store = s.store := rfl
@[simp] theorem State.withDeparted_writes : (s.withDeparted x).writes = s.writes := rfl
@[simp] theorem State.withDeparted_draws : (s.withDeparted x).draws = s.draws := rfl
@[simp] theorem State.withDeparted_pending : (s.withDeparted x).pending = s.pending := rfl
end

section
variable (s : State) (x : EventQueue)
@[simp] theorem State.withEvents_powered : (s.withEvents x).powered = s.powered := rfl
@[simp] theorem State.withEvents_resetN : (s.withEvents x).resetN = s.resetN := rfl
@[simp] theorem State.withEvents_presence : (s.withEvents x).presence = s.presence := rfl
@[simp] theorem State.withEvents_inkInputs : (s.withEvents x).inkInputs = s.inkInputs := rfl
@[simp] theorem State.withEvents_operating : (s.withEvents x).operating = s.operating := rfl
@[simp] theorem State.withEvents_link : (s.withEvents x).link = s.link := rfl
@[simp] theorem State.withEvents_stations : (s.withEvents x).stations = s.stations := rfl
@[simp] theorem State.withEvents_bus : (s.withEvents x).bus = s.bus := rfl
@[simp] theorem State.withEvents_auth : (s.withEvents x).auth = s.auth := rfl
@[simp] theorem State.withEvents_tally : (s.withEvents x).tally = s.tally := rfl
@[simp] theorem State.withEvents_meter : (s.withEvents x).meter = s.meter := rfl
@[simp] theorem State.withEvents_part : (s.withEvents x).part = s.part := rfl
@[simp] theorem State.withEvents_departed : (s.withEvents x).departed = s.departed := rfl
@[simp] theorem State.withEvents_events : (s.withEvents x).events = x := rfl
@[simp] theorem State.withEvents_standing : (s.withEvents x).standing = s.standing := rfl
@[simp] theorem State.withEvents_store : (s.withEvents x).store = s.store := rfl
@[simp] theorem State.withEvents_writes : (s.withEvents x).writes = s.writes := rfl
@[simp] theorem State.withEvents_draws : (s.withEvents x).draws = s.draws := rfl
@[simp] theorem State.withEvents_pending : (s.withEvents x).pending = s.pending := rfl
end

section
variable (s : State) (x : Vector (Option Nat) 30)
@[simp] theorem State.withStanding_powered : (s.withStanding x).powered = s.powered := rfl
@[simp] theorem State.withStanding_resetN : (s.withStanding x).resetN = s.resetN := rfl
@[simp] theorem State.withStanding_presence : (s.withStanding x).presence = s.presence := rfl
@[simp] theorem State.withStanding_inkInputs : (s.withStanding x).inkInputs = s.inkInputs := rfl
@[simp] theorem State.withStanding_operating : (s.withStanding x).operating = s.operating := rfl
@[simp] theorem State.withStanding_link : (s.withStanding x).link = s.link := rfl
@[simp] theorem State.withStanding_stations : (s.withStanding x).stations = s.stations := rfl
@[simp] theorem State.withStanding_bus : (s.withStanding x).bus = s.bus := rfl
@[simp] theorem State.withStanding_auth : (s.withStanding x).auth = s.auth := rfl
@[simp] theorem State.withStanding_tally : (s.withStanding x).tally = s.tally := rfl
@[simp] theorem State.withStanding_meter : (s.withStanding x).meter = s.meter := rfl
@[simp] theorem State.withStanding_part : (s.withStanding x).part = s.part := rfl
@[simp] theorem State.withStanding_departed : (s.withStanding x).departed = s.departed := rfl
@[simp] theorem State.withStanding_events : (s.withStanding x).events = s.events := rfl
@[simp] theorem State.withStanding_standing : (s.withStanding x).standing = x := rfl
@[simp] theorem State.withStanding_store : (s.withStanding x).store = s.store := rfl
@[simp] theorem State.withStanding_writes : (s.withStanding x).writes = s.writes := rfl
@[simp] theorem State.withStanding_draws : (s.withStanding x).draws = s.draws := rfl
@[simp] theorem State.withStanding_pending : (s.withStanding x).pending = s.pending := rfl
end

section
variable (s : State) (x : Retained)
@[simp] theorem State.withStore_powered : (s.withStore x).powered = s.powered := rfl
@[simp] theorem State.withStore_resetN : (s.withStore x).resetN = s.resetN := rfl
@[simp] theorem State.withStore_presence : (s.withStore x).presence = s.presence := rfl
@[simp] theorem State.withStore_inkInputs : (s.withStore x).inkInputs = s.inkInputs := rfl
@[simp] theorem State.withStore_operating : (s.withStore x).operating = s.operating := rfl
@[simp] theorem State.withStore_link : (s.withStore x).link = s.link := rfl
@[simp] theorem State.withStore_stations : (s.withStore x).stations = s.stations := rfl
@[simp] theorem State.withStore_bus : (s.withStore x).bus = s.bus := rfl
@[simp] theorem State.withStore_auth : (s.withStore x).auth = s.auth := rfl
@[simp] theorem State.withStore_tally : (s.withStore x).tally = s.tally := rfl
@[simp] theorem State.withStore_meter : (s.withStore x).meter = s.meter := rfl
@[simp] theorem State.withStore_part : (s.withStore x).part = s.part := rfl
@[simp] theorem State.withStore_departed : (s.withStore x).departed = s.departed := rfl
@[simp] theorem State.withStore_events : (s.withStore x).events = s.events := rfl
@[simp] theorem State.withStore_standing : (s.withStore x).standing = s.standing := rfl
@[simp] theorem State.withStore_store : (s.withStore x).store = x := rfl
@[simp] theorem State.withStore_writes : (s.withStore x).writes = s.writes := rfl
@[simp] theorem State.withStore_draws : (s.withStore x).draws = s.draws := rfl
@[simp] theorem State.withStore_pending : (s.withStore x).pending = s.pending := rfl
end

section
variable (s : State) (x : List StoreWrite)
@[simp] theorem State.withWrites_powered : (s.withWrites x).powered = s.powered := rfl
@[simp] theorem State.withWrites_resetN : (s.withWrites x).resetN = s.resetN := rfl
@[simp] theorem State.withWrites_presence : (s.withWrites x).presence = s.presence := rfl
@[simp] theorem State.withWrites_inkInputs : (s.withWrites x).inkInputs = s.inkInputs := rfl
@[simp] theorem State.withWrites_operating : (s.withWrites x).operating = s.operating := rfl
@[simp] theorem State.withWrites_link : (s.withWrites x).link = s.link := rfl
@[simp] theorem State.withWrites_stations : (s.withWrites x).stations = s.stations := rfl
@[simp] theorem State.withWrites_bus : (s.withWrites x).bus = s.bus := rfl
@[simp] theorem State.withWrites_auth : (s.withWrites x).auth = s.auth := rfl
@[simp] theorem State.withWrites_tally : (s.withWrites x).tally = s.tally := rfl
@[simp] theorem State.withWrites_meter : (s.withWrites x).meter = s.meter := rfl
@[simp] theorem State.withWrites_part : (s.withWrites x).part = s.part := rfl
@[simp] theorem State.withWrites_departed : (s.withWrites x).departed = s.departed := rfl
@[simp] theorem State.withWrites_events : (s.withWrites x).events = s.events := rfl
@[simp] theorem State.withWrites_standing : (s.withWrites x).standing = s.standing := rfl
@[simp] theorem State.withWrites_store : (s.withWrites x).store = s.store := rfl
@[simp] theorem State.withWrites_writes : (s.withWrites x).writes = x := rfl
@[simp] theorem State.withWrites_draws : (s.withWrites x).draws = s.draws := rfl
@[simp] theorem State.withWrites_pending : (s.withWrites x).pending = s.pending := rfl
end

section
variable (s : State) (x : Nat)
@[simp] theorem State.withDraws_powered : (s.withDraws x).powered = s.powered := rfl
@[simp] theorem State.withDraws_resetN : (s.withDraws x).resetN = s.resetN := rfl
@[simp] theorem State.withDraws_presence : (s.withDraws x).presence = s.presence := rfl
@[simp] theorem State.withDraws_inkInputs : (s.withDraws x).inkInputs = s.inkInputs := rfl
@[simp] theorem State.withDraws_operating : (s.withDraws x).operating = s.operating := rfl
@[simp] theorem State.withDraws_link : (s.withDraws x).link = s.link := rfl
@[simp] theorem State.withDraws_stations : (s.withDraws x).stations = s.stations := rfl
@[simp] theorem State.withDraws_bus : (s.withDraws x).bus = s.bus := rfl
@[simp] theorem State.withDraws_auth : (s.withDraws x).auth = s.auth := rfl
@[simp] theorem State.withDraws_tally : (s.withDraws x).tally = s.tally := rfl
@[simp] theorem State.withDraws_meter : (s.withDraws x).meter = s.meter := rfl
@[simp] theorem State.withDraws_part : (s.withDraws x).part = s.part := rfl
@[simp] theorem State.withDraws_departed : (s.withDraws x).departed = s.departed := rfl
@[simp] theorem State.withDraws_events : (s.withDraws x).events = s.events := rfl
@[simp] theorem State.withDraws_standing : (s.withDraws x).standing = s.standing := rfl
@[simp] theorem State.withDraws_store : (s.withDraws x).store = s.store := rfl
@[simp] theorem State.withDraws_writes : (s.withDraws x).writes = s.writes := rfl
@[simp] theorem State.withDraws_draws : (s.withDraws x).draws = x := rfl
@[simp] theorem State.withDraws_pending : (s.withDraws x).pending = s.pending := rfl
end

section
variable (s : State) (x : List Instr)
@[simp] theorem State.withPending_powered : (s.withPending x).powered = s.powered := rfl
@[simp] theorem State.withPending_resetN : (s.withPending x).resetN = s.resetN := rfl
@[simp] theorem State.withPending_presence : (s.withPending x).presence = s.presence := rfl
@[simp] theorem State.withPending_inkInputs : (s.withPending x).inkInputs = s.inkInputs := rfl
@[simp] theorem State.withPending_operating : (s.withPending x).operating = s.operating := rfl
@[simp] theorem State.withPending_link : (s.withPending x).link = s.link := rfl
@[simp] theorem State.withPending_stations : (s.withPending x).stations = s.stations := rfl
@[simp] theorem State.withPending_bus : (s.withPending x).bus = s.bus := rfl
@[simp] theorem State.withPending_auth : (s.withPending x).auth = s.auth := rfl
@[simp] theorem State.withPending_tally : (s.withPending x).tally = s.tally := rfl
@[simp] theorem State.withPending_meter : (s.withPending x).meter = s.meter := rfl
@[simp] theorem State.withPending_part : (s.withPending x).part = s.part := rfl
@[simp] theorem State.withPending_departed : (s.withPending x).departed = s.departed := rfl
@[simp] theorem State.withPending_events : (s.withPending x).events = s.events := rfl
@[simp] theorem State.withPending_standing : (s.withPending x).standing = s.standing := rfl
@[simp] theorem State.withPending_store : (s.withPending x).store = s.store := rfl
@[simp] theorem State.withPending_writes : (s.withPending x).writes = s.writes := rfl
@[simp] theorem State.withPending_draws : (s.withPending x).draws = s.draws := rfl
@[simp] theorem State.withPending_pending : (s.withPending x).pending = x := rfl
end

section
variable (s : State) (i j : Station) (r : StationRec) (c : Option AuthContext)

/-- A written station record reads back. -/
@[simp] theorem State.setStation_station_same : (s.setStation i r).station i = r := by
  simp [State.setStation, State.station]

/-- Writing one station's record leaves every other one alone. -/
theorem State.setStation_station_other (h : j ≠ i) : (s.setStation i r).station j = s.station j := by
  have : (i : Nat) ≠ (j : Nat) := fun e => h (Fin.ext e.symm)
  simp [State.setStation, State.station, this]

/-- A written context reads back. -/
@[simp] theorem State.setContext_context_same : (s.setContext i c).context i = c := by
  simp [State.setContext, State.context]

/-- Writing one station's context leaves every other one alone. -/
theorem State.setContext_context_other (h : j ≠ i) : (s.setContext i c).context j = s.context j := by
  have : (i : Nat) ≠ (j : Nat) := fun e => h (Fin.ext e.symm)
  simp [State.setContext, State.context, this]

@[simp] theorem State.setStation_powered : (s.setStation i r).powered = s.powered := rfl
@[simp] theorem State.modStation_powered (f : StationRec → StationRec) : (s.modStation i f).powered = s.powered := rfl
@[simp] theorem State.modCartridge_powered (f : CartridgeRecord → CartridgeRecord) : (s.modCartridge i f).powered = s.powered := rfl
@[simp] theorem State.setContext_powered : (s.setContext i c).powered = s.powered := rfl
@[simp] theorem State.setStation_resetN : (s.setStation i r).resetN = s.resetN := rfl
@[simp] theorem State.modStation_resetN (f : StationRec → StationRec) : (s.modStation i f).resetN = s.resetN := rfl
@[simp] theorem State.modCartridge_resetN (f : CartridgeRecord → CartridgeRecord) : (s.modCartridge i f).resetN = s.resetN := rfl
@[simp] theorem State.setContext_resetN : (s.setContext i c).resetN = s.resetN := rfl
@[simp] theorem State.setStation_presence : (s.setStation i r).presence = s.presence := rfl
@[simp] theorem State.modStation_presence (f : StationRec → StationRec) : (s.modStation i f).presence = s.presence := rfl
@[simp] theorem State.modCartridge_presence (f : CartridgeRecord → CartridgeRecord) : (s.modCartridge i f).presence = s.presence := rfl
@[simp] theorem State.setContext_presence : (s.setContext i c).presence = s.presence := rfl
@[simp] theorem State.setStation_inkInputs : (s.setStation i r).inkInputs = s.inkInputs := rfl
@[simp] theorem State.modStation_inkInputs (f : StationRec → StationRec) : (s.modStation i f).inkInputs = s.inkInputs := rfl
@[simp] theorem State.modCartridge_inkInputs (f : CartridgeRecord → CartridgeRecord) : (s.modCartridge i f).inkInputs = s.inkInputs := rfl
@[simp] theorem State.setContext_inkInputs : (s.setContext i c).inkInputs = s.inkInputs := rfl
@[simp] theorem State.setStation_operating : (s.setStation i r).operating = s.operating := rfl
@[simp] theorem State.modStation_operating (f : StationRec → StationRec) : (s.modStation i f).operating = s.operating := rfl
@[simp] theorem State.modCartridge_operating (f : CartridgeRecord → CartridgeRecord) : (s.modCartridge i f).operating = s.operating := rfl
@[simp] theorem State.setContext_operating : (s.setContext i c).operating = s.operating := rfl
@[simp] theorem State.setStation_link : (s.setStation i r).link = s.link := rfl
@[simp] theorem State.modStation_link (f : StationRec → StationRec) : (s.modStation i f).link = s.link := rfl
@[simp] theorem State.modCartridge_link (f : CartridgeRecord → CartridgeRecord) : (s.modCartridge i f).link = s.link := rfl
@[simp] theorem State.setContext_link : (s.setContext i c).link = s.link := rfl
@[simp] theorem State.setContext_stations : (s.setContext i c).stations = s.stations := rfl
@[simp] theorem State.setStation_bus : (s.setStation i r).bus = s.bus := rfl
@[simp] theorem State.modStation_bus (f : StationRec → StationRec) : (s.modStation i f).bus = s.bus := rfl
@[simp] theorem State.modCartridge_bus (f : CartridgeRecord → CartridgeRecord) : (s.modCartridge i f).bus = s.bus := rfl
@[simp] theorem State.setContext_bus : (s.setContext i c).bus = s.bus := rfl
@[simp] theorem State.setStation_auth : (s.setStation i r).auth = s.auth := rfl
@[simp] theorem State.modStation_auth (f : StationRec → StationRec) : (s.modStation i f).auth = s.auth := rfl
@[simp] theorem State.modCartridge_auth (f : CartridgeRecord → CartridgeRecord) : (s.modCartridge i f).auth = s.auth := rfl
@[simp] theorem State.setStation_tally : (s.setStation i r).tally = s.tally := rfl
@[simp] theorem State.modStation_tally (f : StationRec → StationRec) : (s.modStation i f).tally = s.tally := rfl
@[simp] theorem State.modCartridge_tally (f : CartridgeRecord → CartridgeRecord) : (s.modCartridge i f).tally = s.tally := rfl
@[simp] theorem State.setContext_tally : (s.setContext i c).tally = s.tally := rfl
@[simp] theorem State.setStation_meter : (s.setStation i r).meter = s.meter := rfl
@[simp] theorem State.modStation_meter (f : StationRec → StationRec) : (s.modStation i f).meter = s.meter := rfl
@[simp] theorem State.modCartridge_meter (f : CartridgeRecord → CartridgeRecord) : (s.modCartridge i f).meter = s.meter := rfl
@[simp] theorem State.setContext_meter : (s.setContext i c).meter = s.meter := rfl
@[simp] theorem State.setStation_part : (s.setStation i r).part = s.part := rfl
@[simp] theorem State.modStation_part (f : StationRec → StationRec) : (s.modStation i f).part = s.part := rfl
@[simp] theorem State.modCartridge_part (f : CartridgeRecord → CartridgeRecord) : (s.modCartridge i f).part = s.part := rfl
@[simp] theorem State.setContext_part : (s.setContext i c).part = s.part := rfl
@[simp] theorem State.setStation_departed : (s.setStation i r).departed = s.departed := rfl
@[simp] theorem State.modStation_departed (f : StationRec → StationRec) : (s.modStation i f).departed = s.departed := rfl
@[simp] theorem State.modCartridge_departed (f : CartridgeRecord → CartridgeRecord) : (s.modCartridge i f).departed = s.departed := rfl
@[simp] theorem State.setContext_departed : (s.setContext i c).departed = s.departed := rfl
@[simp] theorem State.setStation_events : (s.setStation i r).events = s.events := rfl
@[simp] theorem State.modStation_events (f : StationRec → StationRec) : (s.modStation i f).events = s.events := rfl
@[simp] theorem State.modCartridge_events (f : CartridgeRecord → CartridgeRecord) : (s.modCartridge i f).events = s.events := rfl
@[simp] theorem State.setContext_events : (s.setContext i c).events = s.events := rfl
@[simp] theorem State.setStation_standing : (s.setStation i r).standing = s.standing := rfl
@[simp] theorem State.modStation_standing (f : StationRec → StationRec) : (s.modStation i f).standing = s.standing := rfl
@[simp] theorem State.modCartridge_standing (f : CartridgeRecord → CartridgeRecord) : (s.modCartridge i f).standing = s.standing := rfl
@[simp] theorem State.setContext_standing : (s.setContext i c).standing = s.standing := rfl
@[simp] theorem State.setStation_store : (s.setStation i r).store = s.store := rfl
@[simp] theorem State.modStation_store (f : StationRec → StationRec) : (s.modStation i f).store = s.store := rfl
@[simp] theorem State.modCartridge_store (f : CartridgeRecord → CartridgeRecord) : (s.modCartridge i f).store = s.store := rfl
@[simp] theorem State.setContext_store : (s.setContext i c).store = s.store := rfl
@[simp] theorem State.setStation_writes : (s.setStation i r).writes = s.writes := rfl
@[simp] theorem State.modStation_writes (f : StationRec → StationRec) : (s.modStation i f).writes = s.writes := rfl
@[simp] theorem State.modCartridge_writes (f : CartridgeRecord → CartridgeRecord) : (s.modCartridge i f).writes = s.writes := rfl
@[simp] theorem State.setContext_writes : (s.setContext i c).writes = s.writes := rfl
@[simp] theorem State.setStation_draws : (s.setStation i r).draws = s.draws := rfl
@[simp] theorem State.modStation_draws (f : StationRec → StationRec) : (s.modStation i f).draws = s.draws := rfl
@[simp] theorem State.modCartridge_draws (f : CartridgeRecord → CartridgeRecord) : (s.modCartridge i f).draws = s.draws := rfl
@[simp] theorem State.setContext_draws : (s.setContext i c).draws = s.draws := rfl
@[simp] theorem State.setStation_pending : (s.setStation i r).pending = s.pending := rfl
@[simp] theorem State.modStation_pending (f : StationRec → StationRec) : (s.modStation i f).pending = s.pending := rfl
@[simp] theorem State.modCartridge_pending (f : CartridgeRecord → CartridgeRecord) : (s.modCartridge i f).pending = s.pending := rfl
@[simp] theorem State.setContext_pending : (s.setContext i c).pending = s.pending := rfl
@[simp] theorem State.withPowered_station (x) : (s.withPowered x).station i = s.station i := rfl
@[simp] theorem State.withPowered_context (x) : (s.withPowered x).context i = s.context i := rfl
@[simp] theorem State.withResetN_station (x) : (s.withResetN x).station i = s.station i := rfl
@[simp] theorem State.withResetN_context (x) : (s.withResetN x).context i = s.context i := rfl
@[simp] theorem State.withPresence_station (x) : (s.withPresence x).station i = s.station i := rfl
@[simp] theorem State.withPresence_context (x) : (s.withPresence x).context i = s.context i := rfl
@[simp] theorem State.withInkInputs_station (x) : (s.withInkInputs x).station i = s.station i := rfl
@[simp] theorem State.withInkInputs_context (x) : (s.withInkInputs x).context i = s.context i := rfl
@[simp] theorem State.withOperating_station (x) : (s.withOperating x).station i = s.station i := rfl
@[simp] theorem State.withOperating_context (x) : (s.withOperating x).context i = s.context i := rfl
@[simp] theorem State.withLink_station (x) : (s.withLink x).station i = s.station i := rfl
@[simp] theorem State.withLink_context (x) : (s.withLink x).context i = s.context i := rfl
@[simp] theorem State.withStations_context (x) : (s.withStations x).context i = s.context i := rfl
@[simp] theorem State.withBus_station (x) : (s.withBus x).station i = s.station i := rfl
@[simp] theorem State.withBus_context (x) : (s.withBus x).context i = s.context i := rfl
@[simp] theorem State.withAuth_station (x) : (s.withAuth x).station i = s.station i := rfl
@[simp] theorem State.withTally_station (x) : (s.withTally x).station i = s.station i := rfl
@[simp] theorem State.withTally_context (x) : (s.withTally x).context i = s.context i := rfl
@[simp] theorem State.withMeter_station (x) : (s.withMeter x).station i = s.station i := rfl
@[simp] theorem State.withMeter_context (x) : (s.withMeter x).context i = s.context i := rfl
@[simp] theorem State.withPart_station (x) : (s.withPart x).station i = s.station i := rfl
@[simp] theorem State.withPart_context (x) : (s.withPart x).context i = s.context i := rfl
@[simp] theorem State.withDeparted_station (x) : (s.withDeparted x).station i = s.station i := rfl
@[simp] theorem State.withDeparted_context (x) : (s.withDeparted x).context i = s.context i := rfl
@[simp] theorem State.withEvents_station (x) : (s.withEvents x).station i = s.station i := rfl
@[simp] theorem State.withEvents_context (x) : (s.withEvents x).context i = s.context i := rfl
@[simp] theorem State.withStanding_station (x) : (s.withStanding x).station i = s.station i := rfl
@[simp] theorem State.withStanding_context (x) : (s.withStanding x).context i = s.context i := rfl
@[simp] theorem State.withStore_station (x) : (s.withStore x).station i = s.station i := rfl
@[simp] theorem State.withStore_context (x) : (s.withStore x).context i = s.context i := rfl
@[simp] theorem State.withWrites_station (x) : (s.withWrites x).station i = s.station i := rfl
@[simp] theorem State.withWrites_context (x) : (s.withWrites x).context i = s.context i := rfl
@[simp] theorem State.withDraws_station (x) : (s.withDraws x).station i = s.station i := rfl
@[simp] theorem State.withDraws_context (x) : (s.withDraws x).context i = s.context i := rfl
@[simp] theorem State.withPending_station (x) : (s.withPending x).station i = s.station i := rfl
@[simp] theorem State.withPending_context (x) : (s.withPending x).context i = s.context i := rfl
end

end Sys2Proof.Machine
end

