-- ==== Sys2Proof/Laws/Frames.lean ====
section
/-! SUPPORT. The frames of the shared operations: for each, in one lemma, every field of the state that it leaves alone. What it does to the
other fields is read from its definition. -/

namespace Sys2Proof.Machine

variable (s : State)

@[simp] theorem State.raise_frame (k : EventKind) (p : Place) (v : Nat) :
    (s.raise k p v).powered = s.powered ∧ (s.raise k p v).resetN = s.resetN ∧ (s.raise k p v).presence = s.presence ∧
    (s.raise k p v).inkInputs = s.inkInputs ∧ (s.raise k p v).operating = s.operating ∧ (s.raise k p v).link = s.link ∧
    (s.raise k p v).stations = s.stations ∧ (s.raise k p v).bus = s.bus ∧ (s.raise k p v).auth = s.auth ∧
    (s.raise k p v).tally = s.tally ∧ (s.raise k p v).meter = s.meter ∧ (s.raise k p v).part = s.part ∧
    (s.raise k p v).departed = s.departed ∧ (s.raise k p v).standing = s.standing ∧ (s.raise k p v).store = s.store ∧
    (s.raise k p v).writes = s.writes ∧ (s.raise k p v).draws = s.draws ∧ (s.raise k p v).pending = s.pending := by
  simp [State.raise]

@[simp] theorem State.raiseCondition_frame (c : Condition) (v : Nat) :
    (s.raiseCondition c v).powered = s.powered ∧ (s.raiseCondition c v).resetN = s.resetN ∧
    (s.raiseCondition c v).presence = s.presence ∧ (s.raiseCondition c v).inkInputs = s.inkInputs ∧
    (s.raiseCondition c v).operating = s.operating ∧ (s.raiseCondition c v).link = s.link ∧
    (s.raiseCondition c v).stations = s.stations ∧ (s.raiseCondition c v).bus = s.bus ∧
    (s.raiseCondition c v).auth = s.auth ∧ (s.raiseCondition c v).tally = s.tally ∧ (s.raiseCondition c v).meter = s.meter ∧
    (s.raiseCondition c v).part = s.part ∧ (s.raiseCondition c v).departed = s.departed ∧
    (s.raiseCondition c v).store = s.store ∧ (s.raiseCondition c v).writes = s.writes ∧
    (s.raiseCondition c v).draws = s.draws ∧ (s.raiseCondition c v).pending = s.pending := by
  simp [State.raiseCondition]

@[simp] theorem State.endCondition_frame (c : Condition) :
    (s.endCondition c).powered = s.powered ∧ (s.endCondition c).resetN = s.resetN ∧
    (s.endCondition c).presence = s.presence ∧ (s.endCondition c).inkInputs = s.inkInputs ∧
    (s.endCondition c).operating = s.operating ∧ (s.endCondition c).link = s.link ∧
    (s.endCondition c).stations = s.stations ∧ (s.endCondition c).bus = s.bus ∧ (s.endCondition c).auth = s.auth ∧
    (s.endCondition c).tally = s.tally ∧ (s.endCondition c).meter = s.meter ∧ (s.endCondition c).part = s.part ∧
    (s.endCondition c).departed = s.departed ∧ (s.endCondition c).store = s.store ∧ (s.endCondition c).writes = s.writes ∧
    (s.endCondition c).draws = s.draws ∧ (s.endCondition c).pending = s.pending := by
  simp only [State.endCondition]; (repeat' split) <;> simp

@[simp] theorem State.requestWrite_frame (item : StoreItem) (answers : Bool) :
    (s.requestWrite item answers).powered = s.powered ∧ (s.requestWrite item answers).resetN = s.resetN ∧
    (s.requestWrite item answers).presence = s.presence ∧ (s.requestWrite item answers).inkInputs = s.inkInputs ∧
    (s.requestWrite item answers).operating = s.operating ∧ (s.requestWrite item answers).link = s.link ∧
    (s.requestWrite item answers).stations = s.stations ∧ (s.requestWrite item answers).bus = s.bus ∧
    (s.requestWrite item answers).auth = s.auth ∧ (s.requestWrite item answers).tally = s.tally ∧
    (s.requestWrite item answers).meter = s.meter ∧ (s.requestWrite item answers).part = s.part ∧
    (s.requestWrite item answers).departed = s.departed ∧ (s.requestWrite item answers).events = s.events ∧
    (s.requestWrite item answers).standing = s.standing ∧ (s.requestWrite item answers).store = s.store ∧
    (s.requestWrite item answers).draws = s.draws ∧ (s.requestWrite item answers).pending = s.pending := by
  simp [State.requestWrite]

@[simp] theorem State.interruptStore_frame (landed : Bool) :
    (s.interruptStore landed).powered = s.powered ∧ (s.interruptStore landed).resetN = s.resetN ∧
    (s.interruptStore landed).presence = s.presence ∧ (s.interruptStore landed).inkInputs = s.inkInputs ∧
    (s.interruptStore landed).operating = s.operating ∧ (s.interruptStore landed).link = s.link ∧
    (s.interruptStore landed).stations = s.stations ∧ (s.interruptStore landed).bus = s.bus ∧
    (s.interruptStore landed).auth = s.auth ∧ (s.interruptStore landed).tally = s.tally ∧
    (s.interruptStore landed).meter = s.meter ∧ (s.interruptStore landed).part = s.part ∧
    (s.interruptStore landed).departed = s.departed ∧ (s.interruptStore landed).events = s.events ∧
    (s.interruptStore landed).standing = s.standing ∧ (s.interruptStore landed).draws = s.draws ∧
    (s.interruptStore landed).pending = s.pending := by
  simp only [State.interruptStore]; (repeat' split) <;> simp

@[simp] theorem State.writeCheckpoint_frame (i : Station) :
    (s.writeCheckpoint i).powered = s.powered ∧ (s.writeCheckpoint i).resetN = s.resetN ∧
    (s.writeCheckpoint i).presence = s.presence ∧ (s.writeCheckpoint i).inkInputs = s.inkInputs ∧
    (s.writeCheckpoint i).operating = s.operating ∧ (s.writeCheckpoint i).link = s.link ∧
    (s.writeCheckpoint i).stations = s.stations ∧ (s.writeCheckpoint i).bus = s.bus ∧ (s.writeCheckpoint i).auth = s.auth ∧
    (s.writeCheckpoint i).tally = s.tally ∧ (s.writeCheckpoint i).meter = s.meter ∧ (s.writeCheckpoint i).part = s.part ∧
    (s.writeCheckpoint i).departed = s.departed ∧ (s.writeCheckpoint i).events = s.events ∧
    (s.writeCheckpoint i).standing = s.standing ∧ (s.writeCheckpoint i).store = s.store ∧
    (s.writeCheckpoint i).draws = s.draws ∧ (s.writeCheckpoint i).pending = s.pending := by
  simp only [State.writeCheckpoint]; (repeat' split) <;> simp

@[simp] theorem State.clearCheckpoint_frame (i : Station) :
    (s.clearCheckpoint i).powered = s.powered ∧ (s.clearCheckpoint i).resetN = s.resetN ∧
    (s.clearCheckpoint i).presence = s.presence ∧ (s.clearCheckpoint i).inkInputs = s.inkInputs ∧
    (s.clearCheckpoint i).operating = s.operating ∧ (s.clearCheckpoint i).link = s.link ∧
    (s.clearCheckpoint i).stations = s.stations ∧ (s.clearCheckpoint i).bus = s.bus ∧ (s.clearCheckpoint i).auth = s.auth ∧
    (s.clearCheckpoint i).tally = s.tally ∧ (s.clearCheckpoint i).meter = s.meter ∧ (s.clearCheckpoint i).part = s.part ∧
    (s.clearCheckpoint i).departed = s.departed ∧ (s.clearCheckpoint i).events = s.events ∧
    (s.clearCheckpoint i).standing = s.standing ∧ (s.clearCheckpoint i).store = s.store ∧
    (s.clearCheckpoint i).draws = s.draws ∧ (s.clearCheckpoint i).pending = s.pending := by
  simp [State.clearCheckpoint]

@[simp] theorem State.insertDeparted_frame (e : DepartedEntry) :
    (s.insertDeparted e).powered = s.powered ∧ (s.insertDeparted e).resetN = s.resetN ∧
    (s.insertDeparted e).presence = s.presence ∧ (s.insertDeparted e).inkInputs = s.inkInputs ∧
    (s.insertDeparted e).operating = s.operating ∧ (s.insertDeparted e).link = s.link ∧
    (s.insertDeparted e).stations = s.stations ∧ (s.insertDeparted e).bus = s.bus ∧ (s.insertDeparted e).auth = s.auth ∧
    (s.insertDeparted e).tally = s.tally ∧ (s.insertDeparted e).meter = s.meter ∧ (s.insertDeparted e).part = s.part ∧
    (s.insertDeparted e).standing = s.standing ∧ (s.insertDeparted e).store = s.store ∧
    (s.insertDeparted e).draws = s.draws ∧ (s.insertDeparted e).pending = s.pending := by
  simp only [State.insertDeparted]; (repeat' split) <;> simp

@[simp] theorem State.enterDeparted_frame (i : Station) :
    (s.enterDeparted i).powered = s.powered ∧ (s.enterDeparted i).resetN = s.resetN ∧
    (s.enterDeparted i).presence = s.presence ∧ (s.enterDeparted i).inkInputs = s.inkInputs ∧
    (s.enterDeparted i).operating = s.operating ∧ (s.enterDeparted i).link = s.link ∧
    (s.enterDeparted i).stations = s.stations ∧ (s.enterDeparted i).bus = s.bus ∧ (s.enterDeparted i).auth = s.auth ∧
    (s.enterDeparted i).tally = s.tally ∧ (s.enterDeparted i).meter = s.meter ∧ (s.enterDeparted i).part = s.part ∧
    (s.enterDeparted i).standing = s.standing ∧ (s.enterDeparted i).store = s.store ∧ (s.enterDeparted i).draws = s.draws ∧
    (s.enterDeparted i).pending = s.pending := by
  simp only [State.enterDeparted]; (repeat' split) <;> simp

@[simp] theorem State.consumeDeparted_frame (serial : Serial) :
    (s.consumeDeparted serial).powered = s.powered ∧ (s.consumeDeparted serial).resetN = s.resetN ∧
    (s.consumeDeparted serial).presence = s.presence ∧ (s.consumeDeparted serial).inkInputs = s.inkInputs ∧
    (s.consumeDeparted serial).operating = s.operating ∧ (s.consumeDeparted serial).link = s.link ∧
    (s.consumeDeparted serial).stations = s.stations ∧ (s.consumeDeparted serial).bus = s.bus ∧
    (s.consumeDeparted serial).auth = s.auth ∧ (s.consumeDeparted serial).tally = s.tally ∧
    (s.consumeDeparted serial).meter = s.meter ∧ (s.consumeDeparted serial).part = s.part ∧
    (s.consumeDeparted serial).events = s.events ∧ (s.consumeDeparted serial).standing = s.standing ∧
    (s.consumeDeparted serial).store = s.store ∧ (s.consumeDeparted serial).draws = s.draws ∧
    (s.consumeDeparted serial).pending = s.pending := by
  simp only [State.consumeDeparted]; (repeat' split) <;> simp

@[simp] theorem State.enqueue_frame (j : Job) :
    (s.enqueue j).powered = s.powered ∧ (s.enqueue j).resetN = s.resetN ∧ (s.enqueue j).presence = s.presence ∧
    (s.enqueue j).inkInputs = s.inkInputs ∧ (s.enqueue j).operating = s.operating ∧ (s.enqueue j).link = s.link ∧
    (s.enqueue j).stations = s.stations ∧ (s.enqueue j).auth = s.auth ∧ (s.enqueue j).tally = s.tally ∧
    (s.enqueue j).meter = s.meter ∧ (s.enqueue j).part = s.part ∧ (s.enqueue j).departed = s.departed ∧
    (s.enqueue j).events = s.events ∧ (s.enqueue j).standing = s.standing ∧ (s.enqueue j).store = s.store ∧
    (s.enqueue j).writes = s.writes ∧ (s.enqueue j).draws = s.draws ∧ (s.enqueue j).pending = s.pending := by
  simp [State.enqueue]

@[simp] theorem State.requestWake_frame :
    (s.requestWake).powered = s.powered ∧ (s.requestWake).resetN = s.resetN ∧ (s.requestWake).presence = s.presence ∧
    (s.requestWake).inkInputs = s.inkInputs ∧ (s.requestWake).operating = s.operating ∧ (s.requestWake).link = s.link ∧
    (s.requestWake).stations = s.stations ∧ (s.requestWake).auth = s.auth ∧ (s.requestWake).tally = s.tally ∧
    (s.requestWake).meter = s.meter ∧ (s.requestWake).part = s.part ∧ (s.requestWake).departed = s.departed ∧
    (s.requestWake).events = s.events ∧ (s.requestWake).standing = s.standing ∧ (s.requestWake).store = s.store ∧
    (s.requestWake).writes = s.writes ∧ (s.requestWake).draws = s.draws ∧ (s.requestWake).pending = s.pending := by
  simp only [State.requestWake]; (repeat' split) <;> simp

@[simp] theorem State.requestWriteBack_frame (i : Station) (c : JobClass) :
    (s.requestWriteBack i c).powered = s.powered ∧ (s.requestWriteBack i c).resetN = s.resetN ∧
    (s.requestWriteBack i c).presence = s.presence ∧ (s.requestWriteBack i c).inkInputs = s.inkInputs ∧
    (s.requestWriteBack i c).operating = s.operating ∧ (s.requestWriteBack i c).link = s.link ∧
    (s.requestWriteBack i c).stations = s.stations ∧ (s.requestWriteBack i c).auth = s.auth ∧
    (s.requestWriteBack i c).tally = s.tally ∧ (s.requestWriteBack i c).meter = s.meter ∧
    (s.requestWriteBack i c).part = s.part ∧ (s.requestWriteBack i c).departed = s.departed ∧
    (s.requestWriteBack i c).events = s.events ∧ (s.requestWriteBack i c).standing = s.standing ∧
    (s.requestWriteBack i c).store = s.store ∧ (s.requestWriteBack i c).writes = s.writes ∧
    (s.requestWriteBack i c).draws = s.draws ∧ (s.requestWriteBack i c).pending = s.pending := by
  simp only [State.requestWriteBack]; (repeat' split) <;> simp

@[simp] theorem State.withdrawWriteBack_frame (i : Station) :
    (s.withdrawWriteBack i).powered = s.powered ∧ (s.withdrawWriteBack i).resetN = s.resetN ∧
    (s.withdrawWriteBack i).presence = s.presence ∧ (s.withdrawWriteBack i).inkInputs = s.inkInputs ∧
    (s.withdrawWriteBack i).operating = s.operating ∧ (s.withdrawWriteBack i).link = s.link ∧
    (s.withdrawWriteBack i).stations = s.stations ∧ (s.withdrawWriteBack i).auth = s.auth ∧
    (s.withdrawWriteBack i).tally = s.tally ∧ (s.withdrawWriteBack i).meter = s.meter ∧
    (s.withdrawWriteBack i).part = s.part ∧ (s.withdrawWriteBack i).departed = s.departed ∧
    (s.withdrawWriteBack i).events = s.events ∧ (s.withdrawWriteBack i).standing = s.standing ∧
    (s.withdrawWriteBack i).store = s.store ∧ (s.withdrawWriteBack i).writes = s.writes ∧
    (s.withdrawWriteBack i).draws = s.draws ∧ (s.withdrawWriteBack i).pending = s.pending := by
  simp [State.withdrawWriteBack]

@[simp] theorem State.abandonContext_frame (i : Station) :
    (s.abandonContext i).powered = s.powered ∧ (s.abandonContext i).resetN = s.resetN ∧
    (s.abandonContext i).presence = s.presence ∧ (s.abandonContext i).inkInputs = s.inkInputs ∧
    (s.abandonContext i).operating = s.operating ∧ (s.abandonContext i).link = s.link ∧
    (s.abandonContext i).stations = s.stations ∧ (s.abandonContext i).tally = s.tally ∧
    (s.abandonContext i).meter = s.meter ∧ (s.abandonContext i).part = s.part ∧ (s.abandonContext i).departed = s.departed ∧
    (s.abandonContext i).events = s.events ∧ (s.abandonContext i).standing = s.standing ∧
    (s.abandonContext i).store = s.store ∧ (s.abandonContext i).writes = s.writes ∧ (s.abandonContext i).draws = s.draws ∧
    (s.abandonContext i).pending = s.pending := by
  simp only [State.abandonContext]; (repeat' split) <;> simp

@[simp] theorem State.startContext_frame (i : Station) (recheck : Bool) :
    (s.startContext i recheck).powered = s.powered ∧ (s.startContext i recheck).resetN = s.resetN ∧
    (s.startContext i recheck).presence = s.presence ∧ (s.startContext i recheck).inkInputs = s.inkInputs ∧
    (s.startContext i recheck).operating = s.operating ∧ (s.startContext i recheck).link = s.link ∧
    (s.startContext i recheck).stations = s.stations ∧ (s.startContext i recheck).tally = s.tally ∧
    (s.startContext i recheck).meter = s.meter ∧ (s.startContext i recheck).part = s.part ∧
    (s.startContext i recheck).departed = s.departed ∧ (s.startContext i recheck).events = s.events ∧
    (s.startContext i recheck).standing = s.standing ∧ (s.startContext i recheck).store = s.store ∧
    (s.startContext i recheck).writes = s.writes ∧ (s.startContext i recheck).draws = s.draws ∧
    (s.startContext i recheck).pending = s.pending := by
  simp only [State.startContext]; (repeat' split) <;> simp

@[simp] theorem State.queueDueJob_frame (i : Station) :
    (s.queueDueJob i).powered = s.powered ∧ (s.queueDueJob i).resetN = s.resetN ∧ (s.queueDueJob i).presence = s.presence ∧
    (s.queueDueJob i).inkInputs = s.inkInputs ∧ (s.queueDueJob i).operating = s.operating ∧
    (s.queueDueJob i).link = s.link ∧ (s.queueDueJob i).stations = s.stations ∧ (s.queueDueJob i).tally = s.tally ∧
    (s.queueDueJob i).meter = s.meter ∧ (s.queueDueJob i).part = s.part ∧ (s.queueDueJob i).departed = s.departed ∧
    (s.queueDueJob i).events = s.events ∧ (s.queueDueJob i).standing = s.standing ∧ (s.queueDueJob i).store = s.store ∧
    (s.queueDueJob i).writes = s.writes ∧ (s.queueDueJob i).draws = s.draws ∧ (s.queueDueJob i).pending = s.pending := by
  simp only [State.queueDueJob]; (repeat' split) <;> simp

@[simp] theorem State.testWriteBack_frame (i : Station) :
    (s.testWriteBack i).powered = s.powered ∧ (s.testWriteBack i).resetN = s.resetN ∧
    (s.testWriteBack i).presence = s.presence ∧ (s.testWriteBack i).inkInputs = s.inkInputs ∧
    (s.testWriteBack i).operating = s.operating ∧ (s.testWriteBack i).link = s.link ∧
    (s.testWriteBack i).stations = s.stations ∧ (s.testWriteBack i).auth = s.auth ∧ (s.testWriteBack i).tally = s.tally ∧
    (s.testWriteBack i).meter = s.meter ∧ (s.testWriteBack i).part = s.part ∧ (s.testWriteBack i).departed = s.departed ∧
    (s.testWriteBack i).events = s.events ∧ (s.testWriteBack i).standing = s.standing ∧
    (s.testWriteBack i).store = s.store ∧ (s.testWriteBack i).writes = s.writes ∧ (s.testWriteBack i).draws = s.draws ∧
    (s.testWriteBack i).pending = s.pending := by
  simp only [State.testWriteBack]; (repeat' split) <;> simp

@[simp] theorem State.enterQuarantined_frame (i : Station) (cause : QuarantineCause) :
    (s.enterQuarantined i cause).powered = s.powered ∧ (s.enterQuarantined i cause).resetN = s.resetN ∧
    (s.enterQuarantined i cause).presence = s.presence ∧ (s.enterQuarantined i cause).inkInputs = s.inkInputs ∧
    (s.enterQuarantined i cause).operating = s.operating ∧ (s.enterQuarantined i cause).link = s.link ∧
    (s.enterQuarantined i cause).tally = s.tally ∧ (s.enterQuarantined i cause).meter = s.meter ∧
    (s.enterQuarantined i cause).part = s.part ∧ (s.enterQuarantined i cause).departed = s.departed ∧
    (s.enterQuarantined i cause).standing = s.standing ∧ (s.enterQuarantined i cause).store = s.store ∧
    (s.enterQuarantined i cause).writes = s.writes ∧ (s.enterQuarantined i cause).draws = s.draws ∧
    (s.enterQuarantined i cause).pending = s.pending := by
  simp [State.enterQuarantined]

@[simp] theorem State.applyRefillPolicy_frame (i : Station) :
    (s.applyRefillPolicy i).powered = s.powered ∧ (s.applyRefillPolicy i).resetN = s.resetN ∧
    (s.applyRefillPolicy i).presence = s.presence ∧ (s.applyRefillPolicy i).inkInputs = s.inkInputs ∧
    (s.applyRefillPolicy i).operating = s.operating ∧ (s.applyRefillPolicy i).link = s.link ∧
    (s.applyRefillPolicy i).tally = s.tally ∧ (s.applyRefillPolicy i).meter = s.meter ∧
    (s.applyRefillPolicy i).part = s.part ∧ (s.applyRefillPolicy i).departed = s.departed ∧
    (s.applyRefillPolicy i).standing = s.standing ∧ (s.applyRefillPolicy i).store = s.store ∧
    (s.applyRefillPolicy i).writes = s.writes ∧ (s.applyRefillPolicy i).draws = s.draws ∧
    (s.applyRefillPolicy i).pending = s.pending := by
  simp only [State.applyRefillPolicy]; (repeat' split) <;> simp

@[simp] theorem State.recordEvidence_frame (i : Station) (k : EvidenceKind) :
    (s.recordEvidence i k).powered = s.powered ∧ (s.recordEvidence i k).resetN = s.resetN ∧
    (s.recordEvidence i k).presence = s.presence ∧ (s.recordEvidence i k).inkInputs = s.inkInputs ∧
    (s.recordEvidence i k).operating = s.operating ∧ (s.recordEvidence i k).link = s.link ∧
    (s.recordEvidence i k).tally = s.tally ∧ (s.recordEvidence i k).meter = s.meter ∧ (s.recordEvidence i k).part = s.part ∧
    (s.recordEvidence i k).departed = s.departed ∧ (s.recordEvidence i k).standing = s.standing ∧
    (s.recordEvidence i k).store = s.store ∧ (s.recordEvidence i k).draws = s.draws ∧
    (s.recordEvidence i k).pending = s.pending := by
  simp only [State.recordEvidence]; (repeat' split) <;> simp

@[simp] theorem State.noteBand_frame (i : Station) (held : Option LevelBand) (b : LevelBand) :
    (s.noteBand i held b).powered = s.powered ∧ (s.noteBand i held b).resetN = s.resetN ∧
    (s.noteBand i held b).presence = s.presence ∧ (s.noteBand i held b).inkInputs = s.inkInputs ∧
    (s.noteBand i held b).operating = s.operating ∧ (s.noteBand i held b).link = s.link ∧
    (s.noteBand i held b).bus = s.bus ∧ (s.noteBand i held b).auth = s.auth ∧ (s.noteBand i held b).tally = s.tally ∧
    (s.noteBand i held b).meter = s.meter ∧ (s.noteBand i held b).part = s.part ∧
    (s.noteBand i held b).departed = s.departed ∧ (s.noteBand i held b).standing = s.standing ∧
    (s.noteBand i held b).store = s.store ∧ (s.noteBand i held b).writes = s.writes ∧
    (s.noteBand i held b).draws = s.draws ∧ (s.noteBand i held b).pending = s.pending := by
  simp only [State.noteBand]; (repeat' split) <;> simp

@[simp] theorem State.noteEmpty_frame (i : Station) (c : CartridgeRecord) (used : Nat) :
    (s.noteEmpty i c used).powered = s.powered ∧ (s.noteEmpty i c used).resetN = s.resetN ∧
    (s.noteEmpty i c used).presence = s.presence ∧ (s.noteEmpty i c used).inkInputs = s.inkInputs ∧
    (s.noteEmpty i c used).operating = s.operating ∧ (s.noteEmpty i c used).link = s.link ∧
    (s.noteEmpty i c used).auth = s.auth ∧ (s.noteEmpty i c used).tally = s.tally ∧ (s.noteEmpty i c used).meter = s.meter ∧
    (s.noteEmpty i c used).part = s.part ∧ (s.noteEmpty i c used).departed = s.departed ∧
    (s.noteEmpty i c used).standing = s.standing ∧ (s.noteEmpty i c used).store = s.store ∧
    (s.noteEmpty i c used).writes = s.writes ∧ (s.noteEmpty i c used).draws = s.draws ∧
    (s.noteEmpty i c used).pending = s.pending := by
  simp only [State.noteEmpty]; (repeat' split) <;> simp

@[simp] theorem State.computeBand_frame (i : Station) :
    (s.computeBand i).powered = s.powered ∧ (s.computeBand i).resetN = s.resetN ∧ (s.computeBand i).presence = s.presence ∧
    (s.computeBand i).inkInputs = s.inkInputs ∧ (s.computeBand i).operating = s.operating ∧
    (s.computeBand i).link = s.link ∧ (s.computeBand i).auth = s.auth ∧ (s.computeBand i).tally = s.tally ∧
    (s.computeBand i).meter = s.meter ∧ (s.computeBand i).part = s.part ∧ (s.computeBand i).departed = s.departed ∧
    (s.computeBand i).standing = s.standing ∧ (s.computeBand i).store = s.store ∧ (s.computeBand i).writes = s.writes ∧
    (s.computeBand i).draws = s.draws ∧ (s.computeBand i).pending = s.pending := by
  simp only [State.computeBand]; (repeat' split) <;> simp

@[simp] theorem State.chargeFigures_frame (i : Station) (w : Nat) :
    (s.chargeFigures i w).powered = s.powered ∧ (s.chargeFigures i w).resetN = s.resetN ∧
    (s.chargeFigures i w).presence = s.presence ∧ (s.chargeFigures i w).inkInputs = s.inkInputs ∧
    (s.chargeFigures i w).operating = s.operating ∧ (s.chargeFigures i w).link = s.link ∧
    (s.chargeFigures i w).bus = s.bus ∧ (s.chargeFigures i w).auth = s.auth ∧ (s.chargeFigures i w).tally = s.tally ∧
    (s.chargeFigures i w).meter = s.meter ∧ (s.chargeFigures i w).part = s.part ∧
    (s.chargeFigures i w).departed = s.departed ∧ (s.chargeFigures i w).standing = s.standing ∧
    (s.chargeFigures i w).store = s.store ∧ (s.chargeFigures i w).writes = s.writes ∧
    (s.chargeFigures i w).draws = s.draws ∧ (s.chargeFigures i w).pending = s.pending := by
  simp only [State.chargeFigures]; (repeat' split) <;> simp

@[simp] theorem State.testOverdraw_frame (i : Station) :
    (s.testOverdraw i).powered = s.powered ∧ (s.testOverdraw i).resetN = s.resetN ∧
    (s.testOverdraw i).presence = s.presence ∧ (s.testOverdraw i).inkInputs = s.inkInputs ∧
    (s.testOverdraw i).operating = s.operating ∧ (s.testOverdraw i).link = s.link ∧ (s.testOverdraw i).tally = s.tally ∧
    (s.testOverdraw i).meter = s.meter ∧ (s.testOverdraw i).part = s.part ∧ (s.testOverdraw i).departed = s.departed ∧
    (s.testOverdraw i).standing = s.standing ∧ (s.testOverdraw i).store = s.store ∧ (s.testOverdraw i).draws = s.draws ∧
    (s.testOverdraw i).pending = s.pending := by
  simp only [State.testOverdraw]; (repeat' split) <;> simp

@[simp] theorem State.chargeChecks_frame (i : Station) :
    (s.chargeChecks i).powered = s.powered ∧ (s.chargeChecks i).resetN = s.resetN ∧
    (s.chargeChecks i).presence = s.presence ∧ (s.chargeChecks i).inkInputs = s.inkInputs ∧
    (s.chargeChecks i).operating = s.operating ∧ (s.chargeChecks i).link = s.link ∧ (s.chargeChecks i).tally = s.tally ∧
    (s.chargeChecks i).meter = s.meter ∧ (s.chargeChecks i).part = s.part ∧ (s.chargeChecks i).departed = s.departed ∧
    (s.chargeChecks i).standing = s.standing ∧ (s.chargeChecks i).store = s.store ∧ (s.chargeChecks i).draws = s.draws ∧
    (s.chargeChecks i).pending = s.pending := by
  simp [State.chargeChecks]

@[simp] theorem State.chargeCartridge_frame (i : Station) (w : Nat) :
    (s.chargeCartridge i w).powered = s.powered ∧ (s.chargeCartridge i w).resetN = s.resetN ∧
    (s.chargeCartridge i w).presence = s.presence ∧ (s.chargeCartridge i w).inkInputs = s.inkInputs ∧
    (s.chargeCartridge i w).operating = s.operating ∧ (s.chargeCartridge i w).link = s.link ∧
    (s.chargeCartridge i w).tally = s.tally ∧ (s.chargeCartridge i w).meter = s.meter ∧
    (s.chargeCartridge i w).part = s.part ∧ (s.chargeCartridge i w).departed = s.departed ∧
    (s.chargeCartridge i w).standing = s.standing ∧ (s.chargeCartridge i w).store = s.store ∧
    (s.chargeCartridge i w).draws = s.draws ∧ (s.chargeCartridge i w).pending = s.pending := by
  simp [State.chargeCartridge]

@[simp] theorem State.chargeDebt_frame (i : Station) (w : Nat) :
    (s.chargeDebt i w).powered = s.powered ∧ (s.chargeDebt i w).resetN = s.resetN ∧
    (s.chargeDebt i w).presence = s.presence ∧ (s.chargeDebt i w).inkInputs = s.inkInputs ∧
    (s.chargeDebt i w).operating = s.operating ∧ (s.chargeDebt i w).link = s.link ∧ (s.chargeDebt i w).bus = s.bus ∧
    (s.chargeDebt i w).auth = s.auth ∧ (s.chargeDebt i w).tally = s.tally ∧ (s.chargeDebt i w).meter = s.meter ∧
    (s.chargeDebt i w).part = s.part ∧ (s.chargeDebt i w).departed = s.departed ∧ (s.chargeDebt i w).store = s.store ∧
    (s.chargeDebt i w).writes = s.writes ∧ (s.chargeDebt i w).draws = s.draws ∧ (s.chargeDebt i w).pending = s.pending := by
  simp only [State.chargeDebt]; (repeat' split) <;> simp

@[simp] theorem State.routeDelivery_frame (i : Station) (w : Nat) :
    (s.routeDelivery i w).powered = s.powered ∧ (s.routeDelivery i w).resetN = s.resetN ∧
    (s.routeDelivery i w).presence = s.presence ∧ (s.routeDelivery i w).inkInputs = s.inkInputs ∧
    (s.routeDelivery i w).operating = s.operating ∧ (s.routeDelivery i w).link = s.link ∧
    (s.routeDelivery i w).tally = s.tally ∧ (s.routeDelivery i w).meter = s.meter ∧ (s.routeDelivery i w).part = s.part ∧
    (s.routeDelivery i w).departed = s.departed ∧ (s.routeDelivery i w).store = s.store ∧
    (s.routeDelivery i w).draws = s.draws ∧ (s.routeDelivery i w).pending = s.pending := by
  simp only [State.routeDelivery]; (repeat' split) <;> simp

@[simp] theorem State.activationTransfer_frame (i : Station) :
    (s.activationTransfer i).powered = s.powered ∧ (s.activationTransfer i).resetN = s.resetN ∧
    (s.activationTransfer i).presence = s.presence ∧ (s.activationTransfer i).inkInputs = s.inkInputs ∧
    (s.activationTransfer i).operating = s.operating ∧ (s.activationTransfer i).link = s.link ∧
    (s.activationTransfer i).tally = s.tally ∧ (s.activationTransfer i).meter = s.meter ∧
    (s.activationTransfer i).part = s.part ∧ (s.activationTransfer i).departed = s.departed ∧
    (s.activationTransfer i).store = s.store ∧ (s.activationTransfer i).draws = s.draws ∧
    (s.activationTransfer i).pending = s.pending := by
  simp only [State.activationTransfer]; (repeat' split) <;> simp

@[simp] theorem State.enterActive_frame (i : Station) :
    (s.enterActive i).powered = s.powered ∧ (s.enterActive i).resetN = s.resetN ∧ (s.enterActive i).presence = s.presence ∧
    (s.enterActive i).inkInputs = s.inkInputs ∧ (s.enterActive i).operating = s.operating ∧
    (s.enterActive i).link = s.link ∧ (s.enterActive i).tally = s.tally ∧ (s.enterActive i).meter = s.meter ∧
    (s.enterActive i).part = s.part ∧ (s.enterActive i).departed = s.departed ∧ (s.enterActive i).store = s.store ∧
    (s.enterActive i).draws = s.draws ∧ (s.enterActive i).pending = s.pending := by
  simp [State.enterActive]

@[simp] theorem State.enterIdentifying_frame (i : Station) :
    (s.enterIdentifying i).powered = s.powered ∧ (s.enterIdentifying i).resetN = s.resetN ∧
    (s.enterIdentifying i).presence = s.presence ∧ (s.enterIdentifying i).inkInputs = s.inkInputs ∧
    (s.enterIdentifying i).operating = s.operating ∧ (s.enterIdentifying i).link = s.link ∧
    (s.enterIdentifying i).tally = s.tally ∧ (s.enterIdentifying i).meter = s.meter ∧ (s.enterIdentifying i).part = s.part ∧
    (s.enterIdentifying i).departed = s.departed ∧ (s.enterIdentifying i).events = s.events ∧
    (s.enterIdentifying i).standing = s.standing ∧ (s.enterIdentifying i).store = s.store ∧
    (s.enterIdentifying i).writes = s.writes ∧ (s.enterIdentifying i).draws = s.draws ∧
    (s.enterIdentifying i).pending = s.pending := by
  simp [State.enterIdentifying]

@[simp] theorem State.reconcile_frame (i : Station) (id : Identity) :
    (s.reconcile i id).powered = s.powered ∧ (s.reconcile i id).resetN = s.resetN ∧
    (s.reconcile i id).presence = s.presence ∧ (s.reconcile i id).inkInputs = s.inkInputs ∧
    (s.reconcile i id).operating = s.operating ∧ (s.reconcile i id).link = s.link ∧ (s.reconcile i id).tally = s.tally ∧
    (s.reconcile i id).meter = s.meter ∧ (s.reconcile i id).part = s.part ∧ (s.reconcile i id).departed = s.departed ∧
    (s.reconcile i id).standing = s.standing ∧ (s.reconcile i id).store = s.store ∧ (s.reconcile i id).draws = s.draws ∧
    (s.reconcile i id).pending = s.pending := by
  have fold : ∀ (ks : List EvidenceKind) (s : State),
      let t := ks.foldl (fun s k => s.recordEvidence i k) s
      t.powered = s.powered ∧ t.resetN = s.resetN ∧ t.presence = s.presence ∧ t.inkInputs = s.inkInputs ∧ t.operating = s.operating ∧ t.link = s.link ∧ t.tally = s.tally ∧ t.meter = s.meter ∧ t.part = s.part ∧ t.departed = s.departed ∧ t.standing = s.standing ∧ t.store = s.store ∧ t.draws = s.draws ∧ t.pending = s.pending := by
    intro ks; induction ks with
    | nil => intro s; simp
    | cons k ks ih => intro s; simp only [List.foldl_cons]; have := ih (s.recordEvidence i k); simp_all
  unfold State.reconcile; have := fold (arrivalEvidence id (s.departed.lookup id.serial)); simp [this]

@[simp] theorem State.settleInk_frame (i : Station) :
    (s.settleInk i).powered = s.powered ∧ (s.settleInk i).resetN = s.resetN ∧ (s.settleInk i).presence = s.presence ∧
    (s.settleInk i).inkInputs = s.inkInputs ∧ (s.settleInk i).operating = s.operating ∧ (s.settleInk i).link = s.link ∧
    (s.settleInk i).tally = s.tally ∧ (s.settleInk i).meter = s.meter ∧ (s.settleInk i).part = s.part ∧
    (s.settleInk i).departed = s.departed ∧ (s.settleInk i).standing = s.standing ∧ (s.settleInk i).store = s.store ∧
    (s.settleInk i).draws = s.draws ∧ (s.settleInk i).pending = s.pending := by
  simp only [State.settleInk]; (repeat' split) <;> simp

@[simp] theorem State.beginAttempt_frame (i : Station) (c : AuthContext) :
    (s.beginAttempt i c).powered = s.powered ∧ (s.beginAttempt i c).resetN = s.resetN ∧
    (s.beginAttempt i c).presence = s.presence ∧ (s.beginAttempt i c).inkInputs = s.inkInputs ∧
    (s.beginAttempt i c).operating = s.operating ∧ (s.beginAttempt i c).link = s.link ∧
    (s.beginAttempt i c).stations = s.stations ∧ (s.beginAttempt i c).tally = s.tally ∧
    (s.beginAttempt i c).meter = s.meter ∧ (s.beginAttempt i c).part = s.part ∧ (s.beginAttempt i c).departed = s.departed ∧
    (s.beginAttempt i c).events = s.events ∧ (s.beginAttempt i c).standing = s.standing ∧
    (s.beginAttempt i c).store = s.store ∧ (s.beginAttempt i c).writes = s.writes ∧
    (s.beginAttempt i c).pending = s.pending := by
  simp [State.beginAttempt]

@[simp] theorem State.endAttempt_frame (i : Station) (c : AuthContext) (e : AttemptEnding) :
    (s.endAttempt i c e).powered = s.powered ∧ (s.endAttempt i c e).resetN = s.resetN ∧
    (s.endAttempt i c e).presence = s.presence ∧ (s.endAttempt i c e).inkInputs = s.inkInputs ∧
    (s.endAttempt i c e).operating = s.operating ∧ (s.endAttempt i c e).link = s.link ∧
    (s.endAttempt i c e).tally = s.tally ∧ (s.endAttempt i c e).meter = s.meter ∧ (s.endAttempt i c e).part = s.part ∧
    (s.endAttempt i c e).departed = s.departed ∧ (s.endAttempt i c e).standing = s.standing ∧
    (s.endAttempt i c e).store = s.store ∧ (s.endAttempt i c e).writes = s.writes ∧
    (s.endAttempt i c e).pending = s.pending := by
  simp only [State.endAttempt]; (repeat' split) <;> simp

@[simp] theorem State.moveAfterPass_frame (i : Station) (cls : AccountClass) :
    (s.moveAfterPass i cls).powered = s.powered ∧ (s.moveAfterPass i cls).resetN = s.resetN ∧
    (s.moveAfterPass i cls).presence = s.presence ∧ (s.moveAfterPass i cls).inkInputs = s.inkInputs ∧
    (s.moveAfterPass i cls).operating = s.operating ∧ (s.moveAfterPass i cls).link = s.link ∧
    (s.moveAfterPass i cls).tally = s.tally ∧ (s.moveAfterPass i cls).meter = s.meter ∧
    (s.moveAfterPass i cls).part = s.part ∧ (s.moveAfterPass i cls).departed = s.departed ∧
    (s.moveAfterPass i cls).store = s.store ∧ (s.moveAfterPass i cls).draws = s.draws ∧
    (s.moveAfterPass i cls).pending = s.pending := by
  simp only [State.moveAfterPass]; (repeat' split) <;> simp

@[simp] theorem State.firstPass_frame (i : Station) :
    (s.firstPass i).powered = s.powered ∧ (s.firstPass i).resetN = s.resetN ∧ (s.firstPass i).presence = s.presence ∧
    (s.firstPass i).inkInputs = s.inkInputs ∧ (s.firstPass i).operating = s.operating ∧ (s.firstPass i).link = s.link ∧
    (s.firstPass i).tally = s.tally ∧ (s.firstPass i).meter = s.meter ∧ (s.firstPass i).part = s.part ∧
    (s.firstPass i).store = s.store ∧ (s.firstPass i).draws = s.draws ∧ (s.firstPass i).pending = s.pending := by
  simp only [State.firstPass]; (repeat' split) <;> simp

@[simp] theorem State.recheckPass_frame (i : Station) :
    (s.recheckPass i).powered = s.powered ∧ (s.recheckPass i).resetN = s.resetN ∧ (s.recheckPass i).presence = s.presence ∧
    (s.recheckPass i).inkInputs = s.inkInputs ∧ (s.recheckPass i).operating = s.operating ∧
    (s.recheckPass i).link = s.link ∧ (s.recheckPass i).stations = s.stations ∧ (s.recheckPass i).bus = s.bus ∧
    (s.recheckPass i).tally = s.tally ∧ (s.recheckPass i).meter = s.meter ∧ (s.recheckPass i).part = s.part ∧
    (s.recheckPass i).departed = s.departed ∧ (s.recheckPass i).standing = s.standing ∧ (s.recheckPass i).store = s.store ∧
    (s.recheckPass i).writes = s.writes ∧ (s.recheckPass i).draws = s.draws ∧ (s.recheckPass i).pending = s.pending := by
  simp [State.recheckPass]

@[simp] theorem State.enterAuthenticating_frame (i : Station) (id : Identity) :
    (s.enterAuthenticating i id).powered = s.powered ∧ (s.enterAuthenticating i id).resetN = s.resetN ∧
    (s.enterAuthenticating i id).presence = s.presence ∧ (s.enterAuthenticating i id).inkInputs = s.inkInputs ∧
    (s.enterAuthenticating i id).operating = s.operating ∧ (s.enterAuthenticating i id).link = s.link ∧
    (s.enterAuthenticating i id).tally = s.tally ∧ (s.enterAuthenticating i id).meter = s.meter ∧
    (s.enterAuthenticating i id).part = s.part ∧ (s.enterAuthenticating i id).departed = s.departed ∧
    (s.enterAuthenticating i id).standing = s.standing ∧ (s.enterAuthenticating i id).store = s.store ∧
    (s.enterAuthenticating i id).pending = s.pending := by
  simp only [State.enterAuthenticating]; (repeat' split) <;> simp

@[simp] theorem State.identifyCartridge_frame (i : Station) (data : List Byte) :
    (s.identifyCartridge i data).powered = s.powered ∧ (s.identifyCartridge i data).resetN = s.resetN ∧
    (s.identifyCartridge i data).presence = s.presence ∧ (s.identifyCartridge i data).inkInputs = s.inkInputs ∧
    (s.identifyCartridge i data).operating = s.operating ∧ (s.identifyCartridge i data).link = s.link ∧
    (s.identifyCartridge i data).tally = s.tally ∧ (s.identifyCartridge i data).meter = s.meter ∧
    (s.identifyCartridge i data).part = s.part ∧ (s.identifyCartridge i data).departed = s.departed ∧
    (s.identifyCartridge i data).standing = s.standing ∧ (s.identifyCartridge i data).store = s.store ∧
    (s.identifyCartridge i data).pending = s.pending := by
  simp only [State.identifyCartridge]; (repeat' split) <;> simp

@[simp] theorem State.recordIfAny_frame (i : Station) (k : Option EvidenceKind) :
    (s.recordIfAny i k).powered = s.powered ∧ (s.recordIfAny i k).resetN = s.resetN ∧
    (s.recordIfAny i k).presence = s.presence ∧ (s.recordIfAny i k).inkInputs = s.inkInputs ∧
    (s.recordIfAny i k).operating = s.operating ∧ (s.recordIfAny i k).link = s.link ∧ (s.recordIfAny i k).tally = s.tally ∧
    (s.recordIfAny i k).meter = s.meter ∧ (s.recordIfAny i k).part = s.part ∧ (s.recordIfAny i k).departed = s.departed ∧
    (s.recordIfAny i k).standing = s.standing ∧ (s.recordIfAny i k).store = s.store ∧ (s.recordIfAny i k).draws = s.draws ∧
    (s.recordIfAny i k).pending = s.pending := by
  simp only [State.recordIfAny]; (repeat' split) <;> simp

@[simp] theorem State.continueRecheck_frame (i : Station) (t : Nat) :
    (s.continueRecheck i t).powered = s.powered ∧ (s.continueRecheck i t).resetN = s.resetN ∧
    (s.continueRecheck i t).presence = s.presence ∧ (s.continueRecheck i t).inkInputs = s.inkInputs ∧
    (s.continueRecheck i t).operating = s.operating ∧ (s.continueRecheck i t).link = s.link ∧
    (s.continueRecheck i t).stations = s.stations ∧ (s.continueRecheck i t).tally = s.tally ∧
    (s.continueRecheck i t).meter = s.meter ∧ (s.continueRecheck i t).part = s.part ∧
    (s.continueRecheck i t).departed = s.departed ∧ (s.continueRecheck i t).events = s.events ∧
    (s.continueRecheck i t).standing = s.standing ∧ (s.continueRecheck i t).store = s.store ∧
    (s.continueRecheck i t).writes = s.writes ∧ (s.continueRecheck i t).pending = s.pending := by
  simp only [State.continueRecheck]; (repeat' split) <;> simp

@[simp] theorem State.recheckRead_frame (i : Station) (data : List Byte) :
    (s.recheckRead i data).powered = s.powered ∧ (s.recheckRead i data).resetN = s.resetN ∧
    (s.recheckRead i data).presence = s.presence ∧ (s.recheckRead i data).inkInputs = s.inkInputs ∧
    (s.recheckRead i data).operating = s.operating ∧ (s.recheckRead i data).link = s.link ∧
    (s.recheckRead i data).tally = s.tally ∧ (s.recheckRead i data).meter = s.meter ∧ (s.recheckRead i data).part = s.part ∧
    (s.recheckRead i data).departed = s.departed ∧ (s.recheckRead i data).standing = s.standing ∧
    (s.recheckRead i data).store = s.store ∧ (s.recheckRead i data).pending = s.pending := by
  simp only [State.recheckRead]; (repeat' split) <;> simp

@[simp] theorem State.sendVerify_frame (i : Station) (c : AuthContext) (d : Digest) :
    (s.sendVerify i c d).powered = s.powered ∧ (s.sendVerify i c d).resetN = s.resetN ∧
    (s.sendVerify i c d).presence = s.presence ∧ (s.sendVerify i c d).inkInputs = s.inkInputs ∧
    (s.sendVerify i c d).operating = s.operating ∧ (s.sendVerify i c d).link = s.link ∧
    (s.sendVerify i c d).stations = s.stations ∧ (s.sendVerify i c d).bus = s.bus ∧ (s.sendVerify i c d).tally = s.tally ∧
    (s.sendVerify i c d).meter = s.meter ∧ (s.sendVerify i c d).part = s.part ∧ (s.sendVerify i c d).departed = s.departed ∧
    (s.sendVerify i c d).events = s.events ∧ (s.sendVerify i c d).standing = s.standing ∧
    (s.sendVerify i c d).store = s.store ∧ (s.sendVerify i c d).writes = s.writes ∧ (s.sendVerify i c d).draws = s.draws ∧
    (s.sendVerify i c d).pending = s.pending := by
  simp only [State.sendVerify]; (repeat' split) <;> simp

@[simp] theorem State.readIdResult_frame (i : Station) (c : AuthContext) (r : JobResult) (data : List Byte) :
    (s.readIdResult i c r data).powered = s.powered ∧ (s.readIdResult i c r data).resetN = s.resetN ∧
    (s.readIdResult i c r data).presence = s.presence ∧ (s.readIdResult i c r data).inkInputs = s.inkInputs ∧
    (s.readIdResult i c r data).operating = s.operating ∧ (s.readIdResult i c r data).link = s.link ∧
    (s.readIdResult i c r data).tally = s.tally ∧ (s.readIdResult i c r data).meter = s.meter ∧
    (s.readIdResult i c r data).part = s.part ∧ (s.readIdResult i c r data).departed = s.departed ∧
    (s.readIdResult i c r data).standing = s.standing ∧ (s.readIdResult i c r data).store = s.store ∧
    (s.readIdResult i c r data).pending = s.pending := by
  simp only [State.readIdResult]; (repeat' split) <;> simp

@[simp] theorem State.challengeResult_frame (i : Station) (c : AuthContext) (r : JobResult) :
    (s.challengeResult i c r).powered = s.powered ∧ (s.challengeResult i c r).resetN = s.resetN ∧
    (s.challengeResult i c r).presence = s.presence ∧ (s.challengeResult i c r).inkInputs = s.inkInputs ∧
    (s.challengeResult i c r).operating = s.operating ∧ (s.challengeResult i c r).link = s.link ∧
    (s.challengeResult i c r).tally = s.tally ∧ (s.challengeResult i c r).meter = s.meter ∧
    (s.challengeResult i c r).part = s.part ∧ (s.challengeResult i c r).departed = s.departed ∧
    (s.challengeResult i c r).standing = s.standing ∧ (s.challengeResult i c r).store = s.store ∧
    (s.challengeResult i c r).writes = s.writes ∧ (s.challengeResult i c r).pending = s.pending := by
  simp only [State.challengeResult]; (repeat' split) <;> simp

@[simp] theorem State.responseResult_frame (i : Station) (c : AuthContext) (r : JobResult) (data : List Byte) :
    (s.responseResult i c r data).powered = s.powered ∧ (s.responseResult i c r data).resetN = s.resetN ∧
    (s.responseResult i c r data).presence = s.presence ∧ (s.responseResult i c r data).inkInputs = s.inkInputs ∧
    (s.responseResult i c r data).operating = s.operating ∧ (s.responseResult i c r data).link = s.link ∧
    (s.responseResult i c r data).tally = s.tally ∧ (s.responseResult i c r data).meter = s.meter ∧
    (s.responseResult i c r data).part = s.part ∧ (s.responseResult i c r data).departed = s.departed ∧
    (s.responseResult i c r data).standing = s.standing ∧ (s.responseResult i c r data).store = s.store ∧
    (s.responseResult i c r data).writes = s.writes ∧ (s.responseResult i c r data).pending = s.pending := by
  simp only [State.responseResult]; (repeat' split) <;> simp

@[simp] theorem State.authResult_frame (i : Station) (r : JobResult) (data : List Byte) :
    (s.authResult i r data).powered = s.powered ∧ (s.authResult i r data).resetN = s.resetN ∧
    (s.authResult i r data).presence = s.presence ∧ (s.authResult i r data).inkInputs = s.inkInputs ∧
    (s.authResult i r data).operating = s.operating ∧ (s.authResult i r data).link = s.link ∧
    (s.authResult i r data).tally = s.tally ∧ (s.authResult i r data).meter = s.meter ∧
    (s.authResult i r data).part = s.part ∧ (s.authResult i r data).departed = s.departed ∧
    (s.authResult i r data).standing = s.standing ∧ (s.authResult i r data).store = s.store ∧
    (s.authResult i r data).pending = s.pending := by
  simp only [State.authResult]; (repeat' split) <;> simp

@[simp] theorem State.startVerify_frame :
    (s.startVerify).powered = s.powered ∧ (s.startVerify).resetN = s.resetN ∧ (s.startVerify).presence = s.presence ∧
    (s.startVerify).inkInputs = s.inkInputs ∧ (s.startVerify).operating = s.operating ∧ (s.startVerify).link = s.link ∧
    (s.startVerify).stations = s.stations ∧ (s.startVerify).bus = s.bus ∧ (s.startVerify).tally = s.tally ∧
    (s.startVerify).meter = s.meter ∧ (s.startVerify).part = s.part ∧ (s.startVerify).departed = s.departed ∧
    (s.startVerify).events = s.events ∧ (s.startVerify).standing = s.standing ∧ (s.startVerify).store = s.store ∧
    (s.startVerify).writes = s.writes ∧ (s.startVerify).draws = s.draws ∧ (s.startVerify).pending = s.pending := by
  simp only [State.startVerify]; (repeat' split) <;> simp

@[simp] theorem State.verifyOutcome_frame (c : Computation) :
    (s.verifyOutcome c).powered = s.powered ∧ (s.verifyOutcome c).resetN = s.resetN ∧
    (s.verifyOutcome c).presence = s.presence ∧ (s.verifyOutcome c).inkInputs = s.inkInputs ∧
    (s.verifyOutcome c).operating = s.operating ∧ (s.verifyOutcome c).link = s.link ∧ (s.verifyOutcome c).tally = s.tally ∧
    (s.verifyOutcome c).meter = s.meter ∧ (s.verifyOutcome c).part = s.part ∧ (s.verifyOutcome c).store = s.store ∧
    (s.verifyOutcome c).pending = s.pending := by
  simp only [State.verifyOutcome]; (repeat' split) <;> simp

@[simp] theorem State.completeVerify_frame :
    (s.completeVerify).powered = s.powered ∧ (s.completeVerify).resetN = s.resetN ∧
    (s.completeVerify).presence = s.presence ∧ (s.completeVerify).inkInputs = s.inkInputs ∧
    (s.completeVerify).operating = s.operating ∧ (s.completeVerify).link = s.link ∧ (s.completeVerify).tally = s.tally ∧
    (s.completeVerify).meter = s.meter ∧ (s.completeVerify).part = s.part ∧ (s.completeVerify).store = s.store ∧
    (s.completeVerify).pending = s.pending := by
  simp only [State.completeVerify]; (repeat' split) <;> simp

@[simp] theorem State.completeDeparture_frame (i : Station) (f : Option JobResult) :
    (s.completeDeparture i f).powered = s.powered ∧ (s.completeDeparture i f).resetN = s.resetN ∧
    (s.completeDeparture i f).presence = s.presence ∧ (s.completeDeparture i f).inkInputs = s.inkInputs ∧
    (s.completeDeparture i f).operating = s.operating ∧ (s.completeDeparture i f).link = s.link ∧
    (s.completeDeparture i f).bus = s.bus ∧ (s.completeDeparture i f).auth = s.auth ∧
    (s.completeDeparture i f).tally = s.tally ∧ (s.completeDeparture i f).meter = s.meter ∧
    (s.completeDeparture i f).part = s.part ∧ (s.completeDeparture i f).standing = s.standing ∧
    (s.completeDeparture i f).store = s.store ∧ (s.completeDeparture i f).draws = s.draws ∧
    (s.completeDeparture i f).pending = s.pending := by
  simp only [State.completeDeparture]; (repeat' split) <;> simp

@[simp] theorem State.writeBackFailed_frame (i : Station) (cls : JobClass) (r : JobResult) :
    (s.writeBackFailed i cls r).powered = s.powered ∧ (s.writeBackFailed i cls r).resetN = s.resetN ∧
    (s.writeBackFailed i cls r).presence = s.presence ∧ (s.writeBackFailed i cls r).inkInputs = s.inkInputs ∧
    (s.writeBackFailed i cls r).operating = s.operating ∧ (s.writeBackFailed i cls r).link = s.link ∧
    (s.writeBackFailed i cls r).tally = s.tally ∧ (s.writeBackFailed i cls r).meter = s.meter ∧
    (s.writeBackFailed i cls r).part = s.part ∧ (s.writeBackFailed i cls r).standing = s.standing ∧
    (s.writeBackFailed i cls r).store = s.store ∧ (s.writeBackFailed i cls r).draws = s.draws ∧
    (s.writeBackFailed i cls r).pending = s.pending := by
  simp only [State.writeBackFailed]; (repeat' split) <;> simp

@[simp] theorem State.recordWritten_frame (i : Station) (j : Job) :
    (s.recordWritten i j).powered = s.powered ∧ (s.recordWritten i j).resetN = s.resetN ∧
    (s.recordWritten i j).presence = s.presence ∧ (s.recordWritten i j).inkInputs = s.inkInputs ∧
    (s.recordWritten i j).operating = s.operating ∧ (s.recordWritten i j).link = s.link ∧
    (s.recordWritten i j).bus = s.bus ∧ (s.recordWritten i j).auth = s.auth ∧ (s.recordWritten i j).tally = s.tally ∧
    (s.recordWritten i j).meter = s.meter ∧ (s.recordWritten i j).part = s.part ∧
    (s.recordWritten i j).departed = s.departed ∧ (s.recordWritten i j).events = s.events ∧
    (s.recordWritten i j).standing = s.standing ∧ (s.recordWritten i j).store = s.store ∧
    (s.recordWritten i j).writes = s.writes ∧ (s.recordWritten i j).draws = s.draws ∧
    (s.recordWritten i j).pending = s.pending := by
  simp only [State.recordWritten]; (repeat' split) <;> simp

@[simp] theorem State.writeBackResult_frame (i : Station) (j : Job) (r : JobResult) :
    (s.writeBackResult i j r).powered = s.powered ∧ (s.writeBackResult i j r).resetN = s.resetN ∧
    (s.writeBackResult i j r).presence = s.presence ∧ (s.writeBackResult i j r).inkInputs = s.inkInputs ∧
    (s.writeBackResult i j r).operating = s.operating ∧ (s.writeBackResult i j r).link = s.link ∧
    (s.writeBackResult i j r).tally = s.tally ∧ (s.writeBackResult i j r).meter = s.meter ∧
    (s.writeBackResult i j r).part = s.part ∧ (s.writeBackResult i j r).standing = s.standing ∧
    (s.writeBackResult i j r).store = s.store ∧ (s.writeBackResult i j r).draws = s.draws ∧
    (s.writeBackResult i j r).pending = s.pending := by
  simp only [State.writeBackResult]; (repeat' split) <;> simp

@[simp] theorem State.hostResult_frame (i : Station) (j : Job) (r : JobResult) (data : List Byte) :
    (s.hostResult i j r data).powered = s.powered ∧ (s.hostResult i j r data).resetN = s.resetN ∧
    (s.hostResult i j r data).presence = s.presence ∧ (s.hostResult i j r data).inkInputs = s.inkInputs ∧
    (s.hostResult i j r data).operating = s.operating ∧ (s.hostResult i j r data).link = s.link ∧
    (s.hostResult i j r data).stations = s.stations ∧ (s.hostResult i j r data).auth = s.auth ∧
    (s.hostResult i j r data).tally = s.tally ∧ (s.hostResult i j r data).meter = s.meter ∧
    (s.hostResult i j r data).part = s.part ∧ (s.hostResult i j r data).departed = s.departed ∧
    (s.hostResult i j r data).standing = s.standing ∧ (s.hostResult i j r data).store = s.store ∧
    (s.hostResult i j r data).writes = s.writes ∧ (s.hostResult i j r data).draws = s.draws ∧
    (s.hostResult i j r data).pending = s.pending := by
  simp only [State.hostResult]; (repeat' split) <;> simp

@[simp] theorem State.deliver_frame (j : Job) (r : JobResult) (data : List Byte) :
    (s.deliver j r data).powered = s.powered ∧ (s.deliver j r data).resetN = s.resetN ∧
    (s.deliver j r data).presence = s.presence ∧ (s.deliver j r data).inkInputs = s.inkInputs ∧
    (s.deliver j r data).operating = s.operating ∧ (s.deliver j r data).link = s.link ∧
    (s.deliver j r data).tally = s.tally ∧ (s.deliver j r data).meter = s.meter ∧ (s.deliver j r data).part = s.part ∧
    (s.deliver j r data).standing = s.standing ∧ (s.deliver j r data).store = s.store ∧
    (s.deliver j r data).pending = s.pending := by
  simp only [State.deliver]; (repeat' split) <;> simp

@[simp] theorem State.retireJob_frame (j : Job) (r : JobResult) (data : List Byte) :
    (s.retireJob j r data).powered = s.powered ∧ (s.retireJob j r data).resetN = s.resetN ∧
    (s.retireJob j r data).presence = s.presence ∧ (s.retireJob j r data).inkInputs = s.inkInputs ∧
    (s.retireJob j r data).operating = s.operating ∧ (s.retireJob j r data).link = s.link ∧
    (s.retireJob j r data).tally = s.tally ∧ (s.retireJob j r data).meter = s.meter ∧ (s.retireJob j r data).part = s.part ∧
    (s.retireJob j r data).standing = s.standing ∧ (s.retireJob j r data).store = s.store ∧
    (s.retireJob j r data).pending = s.pending := by
  simp [State.retireJob]

@[simp] theorem State.followOn_frame (j : Job) (r : JobResult) :
    (s.followOn j r).powered = s.powered ∧ (s.followOn j r).resetN = s.resetN ∧ (s.followOn j r).presence = s.presence ∧
    (s.followOn j r).inkInputs = s.inkInputs ∧ (s.followOn j r).operating = s.operating ∧ (s.followOn j r).link = s.link ∧
    (s.followOn j r).stations = s.stations ∧ (s.followOn j r).auth = s.auth ∧ (s.followOn j r).tally = s.tally ∧
    (s.followOn j r).meter = s.meter ∧ (s.followOn j r).part = s.part ∧ (s.followOn j r).departed = s.departed ∧
    (s.followOn j r).events = s.events ∧ (s.followOn j r).standing = s.standing ∧ (s.followOn j r).store = s.store ∧
    (s.followOn j r).writes = s.writes ∧ (s.followOn j r).draws = s.draws ∧ (s.followOn j r).pending = s.pending := by
  simp only [State.followOn]; (repeat' split) <;> simp

@[simp] theorem State.afterAuthJob_frame (j : Job) :
    (s.afterAuthJob j).powered = s.powered ∧ (s.afterAuthJob j).resetN = s.resetN ∧
    (s.afterAuthJob j).presence = s.presence ∧ (s.afterAuthJob j).inkInputs = s.inkInputs ∧
    (s.afterAuthJob j).operating = s.operating ∧ (s.afterAuthJob j).link = s.link ∧
    (s.afterAuthJob j).stations = s.stations ∧ (s.afterAuthJob j).tally = s.tally ∧ (s.afterAuthJob j).meter = s.meter ∧
    (s.afterAuthJob j).part = s.part ∧ (s.afterAuthJob j).departed = s.departed ∧ (s.afterAuthJob j).events = s.events ∧
    (s.afterAuthJob j).standing = s.standing ∧ (s.afterAuthJob j).store = s.store ∧ (s.afterAuthJob j).writes = s.writes ∧
    (s.afterAuthJob j).draws = s.draws ∧ (s.afterAuthJob j).pending = s.pending := by
  simp only [State.afterAuthJob]; (repeat' split) <;> simp

@[simp] theorem State.endJob_frame (j : Job) (r : JobResult) (data : List Byte) :
    (s.endJob j r data).powered = s.powered ∧ (s.endJob j r data).resetN = s.resetN ∧
    (s.endJob j r data).presence = s.presence ∧ (s.endJob j r data).inkInputs = s.inkInputs ∧
    (s.endJob j r data).operating = s.operating ∧ (s.endJob j r data).link = s.link ∧ (s.endJob j r data).tally = s.tally ∧
    (s.endJob j r data).meter = s.meter ∧ (s.endJob j r data).part = s.part ∧ (s.endJob j r data).standing = s.standing ∧
    (s.endJob j r data).store = s.store ∧ (s.endJob j r data).pending = s.pending := by
  simp [State.endJob]

@[simp] theorem State.freeBus_frame :
    (s.freeBus).powered = s.powered ∧ (s.freeBus).resetN = s.resetN ∧ (s.freeBus).presence = s.presence ∧
    (s.freeBus).inkInputs = s.inkInputs ∧ (s.freeBus).operating = s.operating ∧ (s.freeBus).link = s.link ∧
    (s.freeBus).stations = s.stations ∧ (s.freeBus).auth = s.auth ∧ (s.freeBus).tally = s.tally ∧
    (s.freeBus).meter = s.meter ∧ (s.freeBus).part = s.part ∧ (s.freeBus).departed = s.departed ∧
    (s.freeBus).events = s.events ∧ (s.freeBus).standing = s.standing ∧ (s.freeBus).store = s.store ∧
    (s.freeBus).writes = s.writes ∧ (s.freeBus).draws = s.draws ∧ (s.freeBus).pending = s.pending := by
  simp [State.freeBus]

@[simp] theorem State.openTransaction_frame (h : Nat) (f : Job → Job) (e : List BusElement) :
    (s.openTransaction h f e).powered = s.powered ∧ (s.openTransaction h f e).resetN = s.resetN ∧
    (s.openTransaction h f e).presence = s.presence ∧ (s.openTransaction h f e).inkInputs = s.inkInputs ∧
    (s.openTransaction h f e).operating = s.operating ∧ (s.openTransaction h f e).link = s.link ∧
    (s.openTransaction h f e).stations = s.stations ∧ (s.openTransaction h f e).auth = s.auth ∧
    (s.openTransaction h f e).tally = s.tally ∧ (s.openTransaction h f e).meter = s.meter ∧
    (s.openTransaction h f e).part = s.part ∧ (s.openTransaction h f e).departed = s.departed ∧
    (s.openTransaction h f e).events = s.events ∧ (s.openTransaction h f e).standing = s.standing ∧
    (s.openTransaction h f e).store = s.store ∧ (s.openTransaction h f e).writes = s.writes ∧
    (s.openTransaction h f e).draws = s.draws ∧ (s.openTransaction h f e).pending = s.pending := by
  simp [State.openTransaction]

@[simp] theorem State.openStatus_frame (j : Job) :
    (s.openStatus j).powered = s.powered ∧ (s.openStatus j).resetN = s.resetN ∧ (s.openStatus j).presence = s.presence ∧
    (s.openStatus j).inkInputs = s.inkInputs ∧ (s.openStatus j).operating = s.operating ∧ (s.openStatus j).link = s.link ∧
    (s.openStatus j).stations = s.stations ∧ (s.openStatus j).auth = s.auth ∧ (s.openStatus j).tally = s.tally ∧
    (s.openStatus j).meter = s.meter ∧ (s.openStatus j).part = s.part ∧ (s.openStatus j).departed = s.departed ∧
    (s.openStatus j).events = s.events ∧ (s.openStatus j).standing = s.standing ∧ (s.openStatus j).store = s.store ∧
    (s.openStatus j).writes = s.writes ∧ (s.openStatus j).draws = s.draws ∧ (s.openStatus j).pending = s.pending := by
  simp [State.openStatus]

@[simp] theorem State.continueBetween_frame :
    (s.continueBetween).powered = s.powered ∧ (s.continueBetween).resetN = s.resetN ∧
    (s.continueBetween).presence = s.presence ∧ (s.continueBetween).inkInputs = s.inkInputs ∧
    (s.continueBetween).operating = s.operating ∧ (s.continueBetween).link = s.link ∧
    (s.continueBetween).stations = s.stations ∧ (s.continueBetween).auth = s.auth ∧ (s.continueBetween).tally = s.tally ∧
    (s.continueBetween).meter = s.meter ∧ (s.continueBetween).part = s.part ∧ (s.continueBetween).departed = s.departed ∧
    (s.continueBetween).events = s.events ∧ (s.continueBetween).standing = s.standing ∧
    (s.continueBetween).store = s.store ∧ (s.continueBetween).writes = s.writes ∧ (s.continueBetween).draws = s.draws ∧
    (s.continueBetween).pending = s.pending := by
  simp only [State.continueBetween]; (repeat' split) <;> simp

@[simp] theorem State.failedAttempt_frame (j : Job) (f : AttemptFailure) :
    (s.failedAttempt j f).powered = s.powered ∧ (s.failedAttempt j f).resetN = s.resetN ∧
    (s.failedAttempt j f).presence = s.presence ∧ (s.failedAttempt j f).inkInputs = s.inkInputs ∧
    (s.failedAttempt j f).operating = s.operating ∧ (s.failedAttempt j f).link = s.link ∧
    (s.failedAttempt j f).tally = s.tally ∧ (s.failedAttempt j f).meter = s.meter ∧ (s.failedAttempt j f).part = s.part ∧
    (s.failedAttempt j f).standing = s.standing ∧ (s.failedAttempt j f).store = s.store ∧
    (s.failedAttempt j f).pending = s.pending := by
  simp only [State.failedAttempt]; (repeat' split) <;> simp

@[simp] theorem State.finishJob_frame (j : Job) (r : JobResult) (data : List Byte) :
    (s.finishJob j r data).powered = s.powered ∧ (s.finishJob j r data).resetN = s.resetN ∧
    (s.finishJob j r data).presence = s.presence ∧ (s.finishJob j r data).inkInputs = s.inkInputs ∧
    (s.finishJob j r data).operating = s.operating ∧ (s.finishJob j r data).link = s.link ∧
    (s.finishJob j r data).tally = s.tally ∧ (s.finishJob j r data).meter = s.meter ∧ (s.finishJob j r data).part = s.part ∧
    (s.finishJob j r data).standing = s.standing ∧ (s.finishJob j r data).store = s.store ∧
    (s.finishJob j r data).pending = s.pending := by
  simp only [State.finishJob]; (repeat' split) <;> simp

@[simp] theorem State.loseArbitration_frame (j : Job) :
    (s.loseArbitration j).powered = s.powered ∧ (s.loseArbitration j).resetN = s.resetN ∧
    (s.loseArbitration j).presence = s.presence ∧ (s.loseArbitration j).inkInputs = s.inkInputs ∧
    (s.loseArbitration j).operating = s.operating ∧ (s.loseArbitration j).link = s.link ∧
    (s.loseArbitration j).tally = s.tally ∧ (s.loseArbitration j).meter = s.meter ∧ (s.loseArbitration j).part = s.part ∧
    (s.loseArbitration j).standing = s.standing ∧ (s.loseArbitration j).store = s.store ∧
    (s.loseArbitration j).pending = s.pending := by
  simp only [State.loseArbitration]; (repeat' split) <;> simp

@[simp] theorem State.startJob_frame (j : Job) :
    (s.startJob j).powered = s.powered ∧ (s.startJob j).resetN = s.resetN ∧ (s.startJob j).presence = s.presence ∧
    (s.startJob j).inkInputs = s.inkInputs ∧ (s.startJob j).operating = s.operating ∧ (s.startJob j).link = s.link ∧
    (s.startJob j).auth = s.auth ∧ (s.startJob j).tally = s.tally ∧ (s.startJob j).meter = s.meter ∧
    (s.startJob j).part = s.part ∧ (s.startJob j).departed = s.departed ∧ (s.startJob j).events = s.events ∧
    (s.startJob j).standing = s.standing ∧ (s.startJob j).store = s.store ∧ (s.startJob j).writes = s.writes ∧
    (s.startJob j).draws = s.draws ∧ (s.startJob j).pending = s.pending := by
  simp only [State.startJob]; (repeat' split) <;> simp

@[simp] theorem State.recovered_frame :
    (s.recovered).powered = s.powered ∧ (s.recovered).resetN = s.resetN ∧ (s.recovered).presence = s.presence ∧
    (s.recovered).inkInputs = s.inkInputs ∧ (s.recovered).operating = s.operating ∧ (s.recovered).link = s.link ∧
    (s.recovered).stations = s.stations ∧ (s.recovered).auth = s.auth ∧ (s.recovered).tally = s.tally ∧
    (s.recovered).meter = s.meter ∧ (s.recovered).part = s.part ∧ (s.recovered).departed = s.departed ∧
    (s.recovered).store = s.store ∧ (s.recovered).writes = s.writes ∧ (s.recovered).draws = s.draws ∧
    (s.recovered).pending = s.pending := by
  simp [State.recovered]

@[simp] theorem State.recoveryFailed_frame :
    (s.recoveryFailed).powered = s.powered ∧ (s.recoveryFailed).resetN = s.resetN ∧
    (s.recoveryFailed).presence = s.presence ∧ (s.recoveryFailed).inkInputs = s.inkInputs ∧
    (s.recoveryFailed).operating = s.operating ∧ (s.recoveryFailed).link = s.link ∧
    (s.recoveryFailed).stations = s.stations ∧ (s.recoveryFailed).auth = s.auth ∧ (s.recoveryFailed).tally = s.tally ∧
    (s.recoveryFailed).meter = s.meter ∧ (s.recoveryFailed).part = s.part ∧ (s.recoveryFailed).departed = s.departed ∧
    (s.recoveryFailed).store = s.store ∧ (s.recoveryFailed).writes = s.writes ∧ (s.recoveryFailed).draws = s.draws ∧
    (s.recoveryFailed).pending = s.pending := by
  simp [State.recoveryFailed]

@[simp] theorem State.endRecovery_frame (high : Bool) :
    (s.endRecovery high).powered = s.powered ∧ (s.endRecovery high).resetN = s.resetN ∧
    (s.endRecovery high).presence = s.presence ∧ (s.endRecovery high).inkInputs = s.inkInputs ∧
    (s.endRecovery high).operating = s.operating ∧ (s.endRecovery high).link = s.link ∧
    (s.endRecovery high).stations = s.stations ∧ (s.endRecovery high).auth = s.auth ∧ (s.endRecovery high).tally = s.tally ∧
    (s.endRecovery high).meter = s.meter ∧ (s.endRecovery high).part = s.part ∧ (s.endRecovery high).departed = s.departed ∧
    (s.endRecovery high).store = s.store ∧ (s.endRecovery high).writes = s.writes ∧ (s.endRecovery high).draws = s.draws ∧
    (s.endRecovery high).pending = s.pending := by
  simp only [State.endRecovery]; (repeat' split) <;> simp

@[simp] theorem State.stuck_frame :
    (s.stuck).powered = s.powered ∧ (s.stuck).resetN = s.resetN ∧ (s.stuck).presence = s.presence ∧
    (s.stuck).inkInputs = s.inkInputs ∧ (s.stuck).operating = s.operating ∧ (s.stuck).link = s.link ∧
    (s.stuck).tally = s.tally ∧ (s.stuck).meter = s.meter ∧ (s.stuck).part = s.part ∧ (s.stuck).store = s.store ∧
    (s.stuck).pending = s.pending := by
  simp only [State.stuck]; (repeat' split) <;> simp

/-- What happens on an empty queue changes the bus and nothing else. -/
@[simp] theorem State.idle_frame :
    (s.idle).powered = s.powered ∧ (s.idle).resetN = s.resetN ∧
    (s.idle).presence = s.presence ∧ (s.idle).inkInputs = s.inkInputs ∧
    (s.idle).operating = s.operating ∧ (s.idle).link = s.link ∧
    (s.idle).stations = s.stations ∧ (s.idle).auth = s.auth ∧ (s.idle).tally = s.tally ∧
    (s.idle).meter = s.meter ∧ (s.idle).part = s.part ∧ (s.idle).departed = s.departed ∧
    (s.idle).events = s.events ∧ (s.idle).standing = s.standing ∧
    (s.idle).store = s.store ∧ (s.idle).writes = s.writes ∧ (s.idle).draws = s.draws ∧
    (s.idle).pending = s.pending := by
  simp only [State.idle, State.whenInService]; (repeat' split) <;> simp

end Sys2Proof.Machine
end

