-- ==== Sys2Proof/Laws/PerInstr.lean ====
section
/-! SUPPORT. The family `Operands`: for every command, well-formedness says exactly that its operands lie in the ranges the manual
gives them. -/

namespace Sys2Proof.Laws

/-- The ranges of a command's operands: a job handle is 1 to 255 (R41), and a transaction reads at most the 36 bytes of READ_ID
(R47); every other operand is in range by its type. -/
def Operands.InRange : Instr → Prop
  | .jobTransactionEnd (.done data) => data.length ≤ 36
  | .pollTimerExpiry handle | .retryTimerExpiry handle => 1 ≤ handle ∧ handle ≤ 255
  | _ => True

/-- A command is well formed exactly where its operands are in range. -/
def Operands.Statement (i : Instr) : Prop := i.WellFormed = true ↔ Operands.InRange i

theorem Operands.powerOn : Operands.Statement .powerOn := ⟨fun _ => trivial, fun _ => rfl⟩

theorem Operands.powerLoss (landed : Bool) : Operands.Statement (.powerLoss landed) := ⟨fun _ => trivial, fun _ => rfl⟩

theorem Operands.resetNFall (landed : Bool) : Operands.Statement (.resetNFall landed) := ⟨fun _ => trivial, fun _ => rfl⟩

theorem Operands.resetNRise : Operands.Statement .resetNRise := ⟨fun _ => trivial, fun _ => rfl⟩

theorem Operands.hlFrameComplete : Operands.Statement .hlFrameComplete := ⟨fun _ => trivial, fun _ => rfl⟩

theorem Operands.gapTimerExpiry : Operands.Statement .gapTimerExpiry := ⟨fun _ => trivial, fun _ => rfl⟩

theorem Operands.lineError : Operands.Statement .lineError := ⟨fun _ => trivial, fun _ => rfl⟩

theorem Operands.takeRequest : Operands.Statement .takeRequest := ⟨fun _ => trivial, fun _ => rfl⟩

theorem Operands.replySent : Operands.Statement .replySent := ⟨fun _ => trivial, fun _ => rfl⟩

theorem Operands.identify : Operands.Statement .identify := ⟨fun _ => trivial, fun _ => rfl⟩

theorem Operands.getStatus : Operands.Statement .getStatus := ⟨fun _ => trivial, fun _ => rfl⟩

theorem Operands.configPart : Operands.Statement .configPart := ⟨fun _ => trivial, fun _ => rfl⟩

theorem Operands.getStation : Operands.Statement .getStation := ⟨fun _ => trivial, fun _ => rfl⟩

theorem Operands.configStation : Operands.Statement .configStation := ⟨fun _ => trivial, fun _ => rfl⟩

theorem Operands.release : Operands.Statement .release := ⟨fun _ => trivial, fun _ => rfl⟩

theorem Operands.tagRead : Operands.Statement .tagRead := ⟨fun _ => trivial, fun _ => rfl⟩

theorem Operands.tagWrite : Operands.Statement .tagWrite := ⟨fun _ => trivial, fun _ => rfl⟩

theorem Operands.getJob : Operands.Statement .getJob := ⟨fun _ => trivial, fun _ => rfl⟩

theorem Operands.abortJob : Operands.Statement .abortJob := ⟨fun _ => trivial, fun _ => rfl⟩

theorem Operands.authenticate : Operands.Statement .authenticate := ⟨fun _ => trivial, fun _ => rfl⟩

theorem Operands.admitCartridge : Operands.Statement .admitCartridge := ⟨fun _ => trivial, fun _ => rfl⟩

theorem Operands.revokeKey : Operands.Statement .revokeKey := ⟨fun _ => trivial, fun _ => rfl⟩

theorem Operands.configLink : Operands.Statement .configLink := ⟨fun _ => trivial, fun _ => rfl⟩

theorem Operands.readLink : Operands.Statement .readLink := ⟨fun _ => trivial, fun _ => rfl⟩

theorem Operands.tally : Operands.Statement .tally := ⟨fun _ => trivial, fun _ => rfl⟩

theorem Operands.setVolumes : Operands.Statement .setVolumes := ⟨fun _ => trivial, fun _ => rfl⟩

theorem Operands.listDeparted : Operands.Statement .listDeparted := ⟨fun _ => trivial, fun _ => rfl⟩

theorem Operands.forget : Operands.Statement .forget := ⟨fun _ => trivial, fun _ => rfl⟩

theorem Operands.getEvents : Operands.Statement .getEvents := ⟨fun _ => trivial, fun _ => rfl⟩

theorem Operands.setMask : Operands.Statement .setMask := ⟨fun _ => trivial, fun _ => rfl⟩

theorem Operands.shutdown : Operands.Statement .shutdown := ⟨fun _ => trivial, fun _ => rfl⟩

theorem Operands.restart : Operands.Statement .restart := ⟨fun _ => trivial, fun _ => rfl⟩

theorem Operands.retainedStoreWriteComplete : Operands.Statement .retainedStoreWriteComplete := ⟨fun _ => trivial, fun _ => rfl⟩

theorem Operands.presenceAsserted (station : Station) : Operands.Statement (.presenceAsserted station) := ⟨fun _ => trivial, fun _ => rfl⟩

theorem Operands.presenceDeasserted (station : Station) : Operands.Statement (.presenceDeasserted station) := ⟨fun _ => trivial, fun _ => rfl⟩

theorem Operands.presenceReasserted (station : Station) : Operands.Statement (.presenceReasserted station) := ⟨fun _ => trivial, fun _ => rfl⟩

theorem Operands.seatTimerExpiry (station : Station) : Operands.Statement (.seatTimerExpiry station) := ⟨fun _ => trivial, fun _ => rfl⟩

theorem Operands.removalTimerExpiry (station : Station) : Operands.Statement (.removalTimerExpiry station) := ⟨fun _ => trivial, fun _ => rfl⟩

theorem Operands.inkSenseChange (station : Station) (asserted : Bool) : Operands.Statement (.inkSenseChange station asserted) := ⟨fun _ => trivial, fun _ => rfl⟩

theorem Operands.inkSettleExpiry (station : Station) : Operands.Statement (.inkSettleExpiry station) := ⟨fun _ => trivial, fun _ => rfl⟩

theorem Operands.arbiterStartJob : Operands.Statement .arbiterStartJob := ⟨fun _ => trivial, fun _ => rfl⟩

theorem Operands.jobTransactionEnd (how : TransferEnd) : Operands.Statement (.jobTransactionEnd how) := by
  cases how <;> simp [Operands.Statement, Operands.InRange, Instr.WellFormed, TransferEnd.wf]

theorem Operands.responsePoll : Operands.Statement .responsePoll := ⟨fun _ => trivial, fun _ => rfl⟩

theorem Operands.pollTimerExpiry (handle : Nat) : Operands.Statement (.pollTimerExpiry handle) := by
  simp [Operands.Statement, Operands.InRange, Instr.WellFormed, wfHandle]

theorem Operands.retryTimerExpiry (handle : Nat) : Operands.Statement (.retryTimerExpiry handle) := by
  simp [Operands.Statement, Operands.InRange, Instr.WellFormed, wfHandle]

theorem Operands.writePhaseEnd (acknowledged : Bool) : Operands.Statement (.writePhaseEnd acknowledged) := ⟨fun _ => trivial, fun _ => rfl⟩

theorem Operands.statusPoll : Operands.Statement .statusPoll := ⟨fun _ => trivial, fun _ => rfl⟩

theorem Operands.statusPollWaitExpiry : Operands.Statement .statusPollWaitExpiry := ⟨fun _ => trivial, fun _ => rfl⟩

theorem Operands.statusRead (status : Byte) : Operands.Statement (.statusRead status) := ⟨fun _ => trivial, fun _ => rfl⟩

theorem Operands.jobCutAtByteBoundary : Operands.Statement .jobCutAtByteBoundary := ⟨fun _ => trivial, fun _ => rfl⟩

theorem Operands.arbitrationLost : Operands.Statement .arbitrationLost := ⟨fun _ => trivial, fun _ => rfl⟩

theorem Operands.foreignStart : Operands.Statement .foreignStart := ⟨fun _ => trivial, fun _ => rfl⟩

theorem Operands.stopCondition : Operands.Statement .stopCondition := ⟨fun _ => trivial, fun _ => rfl⟩

theorem Operands.foreignTimeout : Operands.Statement .foreignTimeout := ⟨fun _ => trivial, fun _ => rfl⟩

theorem Operands.stuckBus : Operands.Statement .stuckBus := ⟨fun _ => trivial, fun _ => rfl⟩

theorem Operands.recoveryEnd (cbdHigh : Bool) : Operands.Statement (.recoveryEnd cbdHigh) := ⟨fun _ => trivial, fun _ => rfl⟩

theorem Operands.faultRetryExpiry (cbdHigh : Bool) : Operands.Statement (.faultRetryExpiry cbdHigh) := ⟨fun _ => trivial, fun _ => rfl⟩

theorem Operands.verifyComputationStart : Operands.Statement .verifyComputationStart := ⟨fun _ => trivial, fun _ => rfl⟩

theorem Operands.verifyCompletion : Operands.Statement .verifyCompletion := ⟨fun _ => trivial, fun _ => rfl⟩

theorem Operands.huntMatch : Operands.Statement .huntMatch := ⟨fun _ => trivial, fun _ => rfl⟩

theorem Operands.candidateTest : Operands.Statement .candidateTest := ⟨fun _ => trivial, fun _ => rfl⟩

theorem Operands.confirmTest : Operands.Statement .confirmTest := ⟨fun _ => trivial, fun _ => rfl⟩

theorem Operands.frameJudged : Operands.Statement .frameJudged := ⟨fun _ => trivial, fun _ => rfl⟩

theorem Operands.framePositionComplete : Operands.Statement .framePositionComplete := ⟨fun _ => trivial, fun _ => rfl⟩

theorem Operands.cycleEnd : Operands.Statement .cycleEnd := ⟨fun _ => trivial, fun _ => rfl⟩

theorem Operands.cycleTimerExpiry : Operands.Statement .cycleTimerExpiry := ⟨fun _ => trivial, fun _ => rfl⟩

theorem Operands.silenceTimerExpiry : Operands.Statement .silenceTimerExpiry := ⟨fun _ => trivial, fun _ => rfl⟩

theorem Operands.cycleComputation : Operands.Statement .cycleComputation := ⟨fun _ => trivial, fun _ => rfl⟩

theorem Operands.wDelivery (station : Station) : Operands.Statement (.wDelivery station) := ⟨fun _ => trivial, fun _ => rfl⟩

theorem Operands.tlcEdge (rising : Bool) (tld : Bool) : Operands.Statement (.tlcEdge rising tld) := ⟨fun _ => trivial, fun _ => rfl⟩

theorem Operands.hlByteReceived (byte : Byte) : Operands.Statement (.hlByteReceived byte) := ⟨fun _ => trivial, fun _ => rfl⟩

theorem Operands.responseReadEnd (response : Option Digest) : Operands.Statement (.responseReadEnd response) := ⟨fun _ => trivial, fun _ => rfl⟩

end Sys2Proof.Laws
end

