-- ==== Sys2Proof/Laws/Words.lean ====
section
/-! SUPPORT. What the operations on jobs, contexts, stations and writes do, in the words of the statements: each operation equals the
word that Safety.lean gives it. -/

namespace Sys2Proof.Laws

open Sys2Proof.Machine Sys2Proof.Safety

variable {s : State} {i : Station} {h : Nat}

theorem mem_heldHandles (s : State) (h : Nat) : h ∈ s.bus.heldHandles ↔ handleHeld s h := by
  simp only [Bus.heldHandles, handleHeld, List.mem_append, List.mem_map]

/-- The handle that the next job takes (R41). -/
theorem nextHandle_of_nextFree (hf : nextFree s h) : s.bus.nextHandle = h := by
  obtain ⟨n, hn, rfl, hfree, hheld⟩ := hf
  have hfind : ((List.range 255).find? ((fun h => !s.bus.heldHandles.contains h) ∘ fun m => (s.bus.lastHandle + m) % 255 + 1))
      = some n := by
    refine List.find?_range_eq_some.mpr ⟨?_, by simpa using hn, fun m hm => ?_⟩
    · simpa [mem_heldHandles] using hfree
    · simpa [mem_heldHandles] using hheld m hm
  rw [Bus.nextHandle, handlesAfter, List.find?_map, hfind]
  rfl

/-- Whether a new context waits for an earlier AUTH job of its station (R44). -/
theorem any_isAuthOf (s : State) (i : Station) : s.bus.jobs.any (Job.isAuthOf i) = decide (authBusy s i) := by
  simp [Job.isAuthOf, authBusy, List.any_eq]

/-- The abandonment of a context (R8, R44, R69). -/
theorem abandonContext_eq (s : State) (i : Station) : s.abandonContext i = withoutContext s i := by
  unfold State.abandonContext withoutContext
  cases s.context i with
  | none => rfl
  | some x =>
    have hp : (fun j : Job => !(j.isAuthOf i && j.waits)) =
        fun j => decide ¬ (j.cls = .auth ∧ j.target = some i ∧ (j.state = .queued ∨ j.state = .retry)) := by
      funext j
      by_cases h1 : j.cls = .auth <;> by_cases h2 : j.target = some i <;> cases h3 : j.state <;>
        simp [Job.isAuthOf, Job.waits, h1, h2, h3]
    have hm : (fun j : Job => if j.isAuthOf i = true then { j with disowned := true } else j) =
        fun j => if j.cls = .auth ∧ j.target = some i then { j with disowned := true } else j := by
      funext j
      simp [Job.isAuthOf]
    have hf : (fun r : VerifyRequest => r.station != i) = fun r => decide (r.station ≠ i) := by
      funext r
      by_cases h : r.station = i <;> simp [h]
    simp only [hp, hm, State.setContext, State.withAuth, Auth.withdrawVerify, State.withBus, hf]

/-- The start of a context (R44, R63, R78). -/
theorem startContext_eq (recheck : Bool) (hf : authBusy s i ∨ nextFree s h) :
    s.startContext i recheck = contextStarted s i recheck h := by
  unfold State.startContext contextStarted
  rw [any_isAuthOf]
  by_cases hb : authBusy s i
  · simp [hb]
  · have hn := nextHandle_of_nextFree (hf.resolve_left hb)
    simp only [hb, decide_false, if_false, Bool.false_eq_true]
    simp only [State.enqueue, Bus.enqueue, State.setContext, State.withAuth, State.withBus, freshJob, Job.fresh, hn]

/-- The waiting first job of a context (R44). -/
theorem queueDueJob_eq (hf : nextFree s h) : s.queueDueJob i = dueJobQueued s i h := by
  unfold State.queueDueJob dueJobQueued
  rw [any_isAuthOf]
  cases s.context i with
  | none => rfl
  | some x =>
    have hn := nextHandle_of_nextFree hf
    by_cases hb : authBusy s i <;> by_cases hx : x.firstJobDue = true <;>
      simp [hb, hx, State.enqueue, Bus.enqueue, State.setContext, State.withAuth, State.withBus, freshJob, Job.fresh, hn]

/-- A number's bytes, least significant first. -/
theorem leBytes_eq_put (n x : Nat) : leBytes n x = put n x := by
  induction n generalizing x with
  | zero => rfl
  | succ n ih =>
    simp only [leBytes, ih, put, List.range_succ_eq_map, List.map_cons, List.map_map, pow_zero, Nat.div_one, Function.comp_def,
      Nat.succ_eq_add_one, pow_succ', Nat.div_div_eq_div_mul]

/-- A number's bytes, most significant first, as on the cartridge bus. -/
theorem beBytes_eq_put (n x : Nat) : beBytes n x = (put n x).reverse := by rw [beBytes, leBytes_eq_put]

/-- The beginning of an attempt (R64). -/
theorem beginAttempt_eq (x : AuthContext) (hf : nextFree s h) : s.beginAttempt i x = attemptBegun s i x h := by
  have hn := nextHandle_of_nextFree hf
  simp only [State.beginAttempt, attemptBegun, State.enqueue, Bus.enqueue, State.setContext, State.withAuth, State.withBus,
    State.withDraws, Job.challengeJob, AuthContext.challenged, freshJob, Job.fresh, beBytes_eq_put, Bus.nextHandle] at hn ⊢
  rw [← hn]

/-- An entry to QUARANTINED (R8). -/
theorem enterQuarantined_eq {c : CartridgeRecord} (cause : QuarantineCause) (hc : (s.station i).cartridge = some c) :
    s.enterQuarantined i cause = toQuarantine s i c cause (causeCode cause) := by
  simp only [State.enterQuarantined, abandonContext_eq, toQuarantine, State.modStation, StationRec.quarantined, quarantinedFor, hc,
    Option.map_some]

/-- The end of an attempt with NO_ANSWER (R66). -/
theorem endAttempt_noAnswer_eq {c : CartridgeRecord} (x : AuthContext) (hc : (s.station i).cartridge = some c) (hf : nextFree s h) :
    s.endAttempt i x .noAnswer = unanswered s i x c h := by
  unfold State.endAttempt unanswered
  split
  · exact beginAttempt_eq _ hf
  · exact enterQuarantined_eq .noResponse hc

/-- The test for a write-back need (R136). -/
theorem testWriteBack_eq {c : CartridgeRecord} (hc : (s.station i).cartridge = some c) : s.testWriteBack i = afterNeed s i c := by
  have hn : c.needsWriteBack s.part.quantum = needsWriteBack s.part.quantum c := by
    unfold CartridgeRecord.needsWriteBack needsWriteBack
    cases c.account with
    | none => rfl
    | some a =>
      cases c.trust <;> cases he : c.emptyLatch <;> cases hr : c.refillMark <;> cases hb : a.baseFlags.emptyLatch <;>
        cases hm : a.baseFlags.refillMark <;>
        simp [TrustClass.trusted, CartridgeRecord.flags, TagFlags.beyond, he, hr, hb, hm]
  unfold State.testWriteBack afterNeed
  rw [hc]
  cases (s.station i).lifecycle <;> simp [hn]

/-- The checkpoint of a record (R141). -/
theorem checkpoint_eq (c : CartridgeRecord) : c.checkpoint = accountOf c := by
  unfold CartridgeRecord.checkpoint accountOf
  cases c.identity <;> cases c.capacity <;> cases c.account <;> cases c.authenticated <;> cases c.trust <;> rfl

/-- The entry of a station's cartridge as departed (R20, R149). -/
theorem enterDeparted_eq (s : State) (i : Station) : s.enterDeparted i = enteredAsDeparted s i := by
  have hf : CartridgeRecord.checkpoint = accountOf := funext checkpoint_eq
  unfold State.enterDeparted enteredAsDeparted State.checkpointOf
  rw [hf]
  cases (s.station i).cartridge.bind accountOf with
  | none => rfl
  | some k =>
    simp only [accountEntered, State.insertDeparted, Checkpoint.entry, State.clearCheckpoint, State.requestWrite]
    cases s.departed.evicted k.serial <;> simp [State.raise, State.withEvents, State.withDeparted, State.withWrites]

/-- A completed write (R186). -/
theorem apply_eq (m : Retained) (item : StoreItem) : m.apply item = stored m item := by cases item <;> rfl

/-- The mark of a job that is to be cut (R46, log entry 15). -/
theorem marked_eq (r : CutReason) (j : Job) : j.marked r = toBeCut r j := by
  unfold Job.marked toBeCut CutReason.after
  cases j.cut with
  | none => rfl
  | some first => cases first <;> rfl

/-- The last of some writes as the one that answers (R189, R191). -/
theorem lastAnswers_append (ws : List StoreWrite) (w : StoreWrite) : lastAnswers (ws ++ [w]) = ws ++ [{ w with answers := true }] := by
  induction ws with
  | nil => rfl
  | cons x rest ih =>
    cases rest with
    | nil => rfl
    | cons y rest => simp only [List.cons_append, lastAnswers, ← ih]

/-- A request that waits for some writes, of which there is a last one (R189, R191). -/
theorem answerAfter_append (s : State) (r : Request) (before ws : List StoreWrite) (w : StoreWrite) :
    s.answerAfter r before (ws ++ [w]) = (s.withWrites (before ++ ws ++ [{ w with answers := true }])).await r := by
  have h : s.answerAfter r before (ws ++ [w]) = (s.withWrites (before ++ lastAnswers (ws ++ [w]))).await r := by
    cases ws <;> rfl
  rw [h, lastAnswers_append, List.append_assoc]

/-- A request that waits for no write. -/
theorem answerAfter_nil (s : State) (r : Request) (before : List StoreWrite) : s.answerAfter r before [] = s.answerDone r := rfl

end Sys2Proof.Laws
end

