-- ==== Sys2Proof/Machine/BusSignals.lean ====
section
/-! DEFINITION. The signals of the cartridge bus (R39, R53): what two successive levels of CBC and CBD mean, and the bits that an element
of a transaction drives. State holds transactions by their elements; the waveform below them is not stepped (log entry 8). -/

namespace Sys2Proof.Machine

/-- The levels of the two lines; `true` is high. -/
structure BusLines where
  clock : Bool
  data : Bool
  deriving DecidableEq, Repr

/-- What a change of the lines means (R39). -/
inductive BusSignal where
  /-- A fall of CBD while CBC is high. -/
  | start
  /-- A rise of CBD while CBC is high. -/
  | stop
  /-- A rising edge of CBC, at which the bit on CBD is sampled. -/
  | sample (bit : Bool)
  /-- A fall of CBC; the one that ends an acknowledge bit is a byte boundary. -/
  | clockFall
  | quiet
  deriving DecidableEq, Repr

/-- The meaning of a change from one pair of levels to the next (R39). -/
def busSignal (old new : BusLines) : BusSignal :=
  if old.clock && new.clock then
    if old.data && !new.data then .start else if !old.data && new.data then .stop else .quiet
  else if !old.clock && new.clock then .sample new.data
  else if old.clock && !new.clock then .clockFall
  else .quiet

/-- The line as several open-drain drivers leave it: high only where every one of them releases it (chapter 3). -/
def wiredLevel (released : List Bool) : Bool := released.all id

/-- The engine loses arbitration at a bit it releases and reads low (R53). -/
def arbitrationLost (sent read : Bool) : Bool := sent && !read

/-- A byte's eight bits, most significant first (R39). -/
def byteBits (b : Byte) : List Bool := (List.range 8).map (fun k => b.getMsbD k)

/-- What the engine drives on CBD in the nine bit times of an element, `true` for released: it releases the acknowledge bit of a byte it
sends, and drives that of a byte it reads low exactly where it acknowledges (R39, R46). -/
def BusElement.driven : BusElement → List Bool
  | .start | .stop => []
  | .send b => byteBits b ++ [true]
  | .receive acknowledge => List.replicate 8 true ++ [!acknowledge]

end Sys2Proof.Machine
end

