-- ==== Sys2Proof/Machine/HostLine.lean ====
section
/-! DEFINITION. The UART of the host link (R173): the levels of HL_RX and HL_TX in the bit times of a byte, and the row that ten levels
on HL_RX bring. State holds the link by its bytes; the levels are not stepped (log entry 8). -/

namespace Sys2Proof.Machine

/-- The ten levels of a byte on the line, `true` for high: a low start bit, the eight data bits least significant first, no parity, and
one high stop bit (R173). -/
def lineFrame (b : Byte) : List Bool := [false] ++ (List.range 8).map (fun k => b.getLsbD k) ++ [true]

/-- The byte that eight data bits carry, least significant first (R173). -/
def lineByte (bits : List Bool) : Byte := BitVec.ofNat 8 (bits.foldr (fun b n => b.toNat + 2 * n) 0)

/-- What the levels of ten bit times on HL_RX, from a start bit on, bring to the receiver: a byte, or, where the stop bit is low, a line
error (R173, R175). -/
def lineRow : List Bool → Option Instr
  | [false, b0, b1, b2, b3, b4, b5, b6, b7, stop] =>
    some (if stop then .hlByteReceived (lineByte [b0, b1, b2, b3, b4, b5, b6, b7]) else .lineError)
  | _ => none

/-- The levels that HL_TX goes through for a reply; before and after it the line is high (R173). -/
def Reply.levels (r : Reply) : List Bool := r.bytes.flatMap lineFrame

end Sys2Proof.Machine
end

