-- ==== Sys2Proof/Machine/Tag.lean ====
section
/-! DEFINITION. The cartridge tag as chapter 2 states it. A tag is no part of the 2608 (chapter 2) and no field of State: it is the other
end of the cartridge bus, whose answers the bus commands carry. The functions here say what those answers can be (log entry 7). -/

namespace Sys2Proof.Machine

/-- The write status in byte 36 (R32). -/
inductive WriteStatus where
  | accepted | refusedDecrease | badCheck | badArea
  deriving DecidableEq, Repr

/-- The status byte's codes (R32). -/
def WriteStatus.code : WriteStatus → Byte
  | .accepted => 0 | .refusedDecrease => 1 | .badCheck => 2 | .badArea => 3

/-- The non-volatile contents (section 2.2): the identity record, the usage record, the user area, the key secret. -/
structure TagContents where
  identity : List Byte
  usage : List Byte
  user : List Byte
  secret : Option Nat
  deriving DecidableEq, Repr

/-- What a tag is busy with (R27, R33, R34): a commit of new contents, or the computation of a response. -/
inductive TagWork where
  | idle
  | committing (contents : TagContents)
  | computing (response : Digest)
  deriving DecidableEq, Repr

/-- A write with its offset and its data so far; `overrun` is set once a 33rd data byte has come (R29). -/
structure TagWrite where
  offset : Nat
  data : List Byte
  overrun : Bool
  deriving DecidableEq, Repr

/-- The transaction a tag takes part in (R29): none, one it ignores, a write before its offset byte, a write, a read that the master has
acknowledged so far, or a broadcast write, with the write that the broadcast's repeated start ended while it is not yet known whether
the broadcast is a WAKE (log entry 7). -/
inductive TagTransfer where
  | none
  | ignoring
  | offsetDue
  | writing (w : TagWrite)
  | reading
  | broadcast (held : Option TagWrite)
  deriving DecidableEq, Repr

/-- A powered tag: its contents and its volatile working state (R28). -/
structure Tag where
  contents : TagContents
  pointer : Nat
  status : WriteStatus
  challenge : List Byte
  response : List Byte
  work : TagWork
  transfer : TagTransfer
  deriving DecidableEq, Repr

/-- A tag as it powers up with its contents (R28). -/
def Tag.powerUp (contents : TagContents) : Tag :=
  { contents, pointer := 0, status := .accepted, challenge := List.replicate 8 0, response := List.replicate 8 0,
    work := .idle, transfer := .none }

/-- What a tag keeps when it loses power: a commit under way has finished or not, and leaves its region whole either way (R28, R34). -/
def Tag.powerLost (t : Tag) (finished : Bool) : TagContents :=
  match t.work with
  | .committing contents => if finished then contents else t.contents
  | .idle | .computing _ => t.contents

/-- A tag is busy while it commits or computes (R27). -/
def Tag.busy (t : Tag) : Bool := t.work != .idle

/-- The byte that a position of the tag space reads as (section 2.2, R29). -/
def Tag.byte (t : Tag) (position : Nat) : Byte :=
  if position < 24 then byteAt t.contents.identity position
  else if position < 36 then byteAt t.contents.usage (position - 24)
  else if position = 36 then t.status.code
  else if 48 ≤ position ∧ position < 56 then byteAt t.response (position - 48)
  else if 64 ≤ position ∧ position < 96 then byteAt t.contents.user (position - 64)
  else 0

/-- The next byte of a read: the byte at the read pointer is sent and the pointer advances, byte 127 followed by byte 0. The read goes on
while the master acknowledges; in any other transaction the tag sends nothing (R29). -/
def Tag.send (acknowledged : Bool) (t : Tag) : Tag × Option Byte :=
  match t.transfer with
  | .reading =>
    ({ t with pointer := (t.pointer + 1) % 128, transfer := if acknowledged then .reading else .ignoring }, some (t.byte t.pointer))
  | .none | .ignoring | .offsetDue | .writing _ | .broadcast _ => (t, none)

/-- A read of n bytes, all but the last acknowledged (R29, R46): the tag afterwards, and the bytes it sent. -/
def Tag.read : Nat → Tag → Tag × List Byte
  | 0, t => (t, [])
  | n + 1, t =>
    let (t1, b) := t.send (0 < n)
    let (t2, bs) := Tag.read n t1
    (t2, b.toList ++ bs)

/-- The used figure that a usage record holds. -/
def usageUsed (record : List Byte) : Nat := beField record 0 4

/-- The usage record that an accepted usage write commits: flags ORed, the rest as written, the check byte recomputed (R31 step 3). -/
def committedUsage (held written : List Byte) : List Byte :=
  let body := byteSlice written 0 4 ++ [byteAt held 4 ||| byteAt written 4] ++ byteSlice written 5 6
  body ++ [checkByte body]

/-- The judgement of a usage write (R31). -/
def usageStatus (held written : List Byte) : WriteStatus :=
  if !recordGood written then .badCheck
  else if usageUsed written < usageUsed held then .refusedDecrease
  else .accepted

/-- A usage write at its end (R31, R34). -/
def Tag.usageWrite (written : List Byte) (t : Tag) : Tag :=
  match usageStatus t.contents.usage written with
  | .accepted =>
    { t with status := .accepted, work := .committing { t.contents with usage := committedUsage t.contents.usage written } }
  | other => { t with status := other }

/-- The response that a tag computes to a challenge (R33). -/
def Tag.digest (t : Tag) (challenge : List Byte) : Digest :=
  Config.digest t.contents.secret (BitVec.ofNat 64 (beField t.contents.identity 0 8)) (BitVec.ofNat 64 (beNumber challenge))
    (usageUsed t.contents.usage) (byteAt t.contents.identity 15).toNat

/-- A challenge at the end of its write (R33). -/
def Tag.takeChallenge (challenge : List Byte) (t : Tag) : Tag :=
  { t with challenge, status := .accepted, work := .computing (t.digest challenge) }

/-- The user area with bytes stored from an offset of the tag space on (R32). -/
def storeUser (user : List Byte) (offset : Nat) (data : List Byte) : List Byte :=
  user.take (offset - 64) ++ data ++ user.drop (offset - 64 + data.length)

/-- A user-area write at its end (R32, R34). -/
def Tag.userWrite (offset : Nat) (data : List Byte) (t : Tag) : Tag :=
  { t with status := .accepted, work := .committing { t.contents with user := storeUser t.contents.user offset data } }

/-- The classification of a write that carried data, by the bytes it covers (R30 to R33). -/
def Tag.classify (w : TagWrite) (t : Tag) : Tag :=
  if w.overrun then { t with status := .badArea }
  else if w.offset = 24 ∧ w.data.length = 12 then t.usageWrite w.data
  else if w.offset = 40 ∧ w.data.length = 8 then t.takeChallenge w.data
  else if 64 ≤ w.offset ∧ w.offset + w.data.length ≤ 96 then t.userWrite w.offset w.data
  else { t with status := .badArea }

/-- What a write does at its end: with data it is classified, and a pointer setting leaves everything else (R29). -/
def Tag.act (w : TagWrite) (t : Tag) : Tag := if w.data = [] then t else t.classify w

/-- A stop or repeated start ends the transaction, and a write acts: the one under way, or the one that the repeated start of a broadcast
write has ended before (R29). -/
def Tag.endWrite (t : Tag) : Tag :=
  match t.transfer with
  | .writing w | .broadcast (some w) => { t with transfer := .none }.act w
  | .none | .ignoring | .offsetDue | .reading | .broadcast none => { t with transfer := .none }

/-- WAKE's command byte: a transaction part way through is abandoned, a partial write discarded unclassified, and the pointer returns to 0
(R35). -/
def Tag.wake (t : Tag) : Tag := { t with pointer := 0, transfer := .none }

/-- A written byte after the address: whether the tag acknowledges it (R29, R35). Of a broadcast write R27 and R35 state the acknowledge of
the address only: that the tag acknowledges the command byte 0x5B, and no other byte, is the model's choice, and so is that a 0x5B that
follows another byte in the same write still is WAKE (log entry 7). The first byte of a broadcast that is not 0x5B shows that it is no WAKE:
the write that its repeated start ended is classified (R29, log entry 7). -/
def Tag.receive (b : Byte) (t : Tag) : Tag × Bool :=
  match t.transfer with
  | .offsetDue =>
    if b.toNat ≤ 127 then ({ t with pointer := b.toNat, transfer := .writing ⟨b.toNat, [], false⟩ }, true)
    else ({ t with transfer := .ignoring }, false)
  | .writing w =>
    if w.data.length < 32 then ({ t with transfer := .writing { w with data := w.data ++ [b] } }, true)
    else ({ t with transfer := .writing { w with overrun := true } }, false)
  | .broadcast _ => if b = 0x5B then (t.wake, true) else ({ t.endWrite with transfer := .broadcast none }, false)
  | .none | .ignoring | .reading => (t, false)

/-- What a tag takes part in after the start of a broadcast write, which every tag hears (R27). A write that this start ends is kept as it
is: WAKE's byte discards it unclassified (R35), and any other byte, a stop or a further start has it classified (R29). That the one rule
gives way to the other only at WAKE's byte is the model's choice (log entry 7). -/
def Tag.hearBroadcast (t : Tag) : Tag :=
  match t.transfer with
  | .writing w => { t with transfer := .broadcast (some w) }
  | .none | .ignoring | .offsetDue | .reading | .broadcast _ => { t.endWrite with transfer := .broadcast none }

/-- A start condition with an address byte: whether this tag acknowledges it, and what it then takes part in. A tag at a station answers
at 0x30 plus the station's number while it is idle; every tag hears a broadcast write, and a broadcast read is not acknowledged (R27). A
start other than a broadcast write's ends a write that is under way (R29). -/
def Tag.address (station : Station) (address : Nat) (read : Bool) (t : Tag) : Tag × Bool :=
  if address = 0 ∧ read = false then (t.hearBroadcast, true)
  else
    let t1 := t.endWrite
    if address = tagAddress station ∧ !t1.busy then ({ t1 with transfer := if read then .reading else .offsetDue }, true)
    else ({ t1 with transfer := .ignoring }, false)

/-- The work a tag is busy with finishes: new contents committed, or the response placed in its area, most significant byte first (R33,
R34). -/
def Tag.finish (t : Tag) : Tag :=
  match t.work with
  | .idle => t
  | .committing contents => { t with contents, work := .idle }
  | .computing d => { t with response := beBytes 8 d.toNat, work := .idle }

end Sys2Proof.Machine
end

