-- ==== Sys2Proof/Tests/Slice0.lean ====
section
/-! SUPPORT. The model's own tests: worked examples and tables of the manual, the smoke test of WellFormed, and for each statement that
has hypotheses a concrete state and operands that meet them. -/

namespace Sys2Proof.Tests

open Sys2Proof Sys2Proof.Machine Sys2Proof.Safety

/-! ## States built from the state after reset -/

/-- The state that an outcome goes to. -/
def after (o : Host.Outcome State Fault Refusal) : State :=
  match o with
  | .next t => t
  | .fault _ | .refused _ => State.reset

/-- The state with a request handed to its owner, tag 7. -/
def asked (s : State) (kind : RequestKind) (body : List Byte) : State :=
  s.withLink { s.link with engine := .handed ⟨kind, 7, body⟩ }

/-- A cartridge that has been authenticated, with its figures. -/
def genuine : CartridgeRecord :=
  { CartridgeRecord.fresh with
    identity := some ⟨5, 3, 2, 1, 1000, ⟨false, false⟩⟩, capacity := some 200000000, trust := .genuine, authenticated := true
    origin := some .new, account := some ⟨2000, 1000, 1000, ⟨false, false⟩⟩ }

/-- The same cartridge before its first pass. -/
def arriving : CartridgeRecord := { genuine with trust := .pending, authenticated := false }

/-- Station 2 in a lifecycle state with a cartridge record. -/
def held (l : Lifecycle) (c : CartridgeRecord) : State :=
  State.reset.setStation 2 { State.reset.station 2 with lifecycle := l, cartridge := some c }

/-- A job of station 2, ACTIVE in its transaction. -/
def job (kind : JobKind) (cls : JobClass) : Job :=
  { Job.fresh (some 2) kind cls with handle := 9, state := .active, length := 4 }

/-- A state whose bus has a condition and these jobs. -/
def onBus (s : State) (condition : BusCondition) (jobs : List Job) : State := s.withBus { s.bus with condition, jobs }

/-- An auth context at a step. -/
def context (step : AuthStep) (recheck : Bool) : AuthContext := ⟨step, recheck, 1, some 77, some 1000, none, false⟩

/-- A tally receiver in SYNC with kept bits. -/
def inSync (e : Fin 8) (judged : Option Bool) (stream : List Bool) (buffer : Option CycleBuffer) : State :=
  State.reset.withTally { State.reset.tally with aligner := .sync e judged, stream, buffer }

/-- The 24 bits that begin a frame of index k. -/
def header (k : Fin 8) : List Bool := bitsOf 0xC7 ++ bitsOf 0x39 ++ bitsOf (BitVec.ofNat 8 (k.val + 16 * (7 - k.val)))

/-! ## WellFormed refuses operands that no command can carry -/

theorem test_ill_formed_handle_zero : Instr.WellFormed (.pollTimerExpiry 0) = false := by decide
theorem test_ill_formed_handle_256 : Instr.WellFormed (.retryTimerExpiry 256) = false := by decide
theorem test_ill_formed_read_of_37 : Instr.WellFormed (.jobTransactionEnd (.done (List.replicate 37 0))) = false := by decide
theorem test_well_formed_boundaries :
    Instr.WellFormed (.pollTimerExpiry 255) = true ∧ Instr.WellFormed (.retryTimerExpiry 1) = true ∧
      Instr.WellFormed (.jobTransactionEnd (.done (List.replicate 36 0))) = true := by decide

/-- No row of the table has bits, so no word spells a command. -/
theorem test_no_word_spells_a_command : decodeTableWord 8 0xA5 = none ∧ State.reset.withFetchWord 8 0xA5 = State.reset := ⟨rfl, rfl⟩

/-! ## Arithmetic and layouts, by the manual's examples -/

/-- Section 5.1: index 5 is carried as 0x25. -/
theorem test_index_byte_of_5 : readIndexByte 0x25 = some 5 ∧ readIndexByte 0xA5 = none ∧ readIndexByte 0x24 = none := by decide

/-- R116: with R = 3 and k = 128, S is 2; and the largest S. -/
theorem test_scaling_rounds_half_up : scaleVolume 3 128 = 2 ∧ scaleVolume 134053920 384 = 201080880 := by decide

/-- R183's examples of the clamping in order. -/
theorem test_thresholds_clamped_in_order :
    let p := readPartConfig ([25, 25, 160, 30] ++ put 2 600 ++ put 2 0 ++ List.replicate 11 0)
    let q := readPartConfig ([200, 0, 0, 0] ++ put 2 100 ++ put 2 100 ++ List.replicate 11 0)
    (p.t1, p.t2, p.t3, p.t4, p.lowPermille, p.criticalPermille) = (25, 26, 149, 150, 500, 1) ∧
      (q.t1, q.t2, q.t3, q.t4, q.lowPermille, q.criticalPermille) = (147, 148, 149, 150, 100, 99) := by decide

/-- R127's table at its boundaries, and the bands of the example of section 7.7. -/
theorem test_level_bands :
    levelBand 150 50 1000000 849000 = .ok ∧ levelBand 150 50 1000000 850000 = .low ∧ levelBand 150 50 1000000 950000 = .critical ∧
      levelBand 150 50 1000000 999999 = .critical ∧ levelBand 150 50 1000000 1000000 = .empty ∧
      levelBand 150 50 200000000 199999990 = .critical ∧ levelBand 150 50 500000000 2120 = .ok := by decide

/-- R113: the band's way through the warm-up of section 6.3's example. -/
theorem test_band_through_warm_up :
    let p := PartConfig.initial
    (p.bandAfter 35 0, p.bandAfter 29 2, p.bandAfter 27 2, p.bandAfter 55 1, p.bandAfter 10 4) = (2, 2, 1, 4, 0) := by decide

/-- R2 and R38: a usage write's bytes for the example of section 2.6, step 2, sum to 0 modulo 256. -/
theorem test_usage_write_sums_to_zero :
    usageWriteBytes 200500000 ⟨false, false⟩ 0x00010A2C = [0x0B, 0xF3, 0x63, 0x20, 0, 0, 1, 0x0A, 0x2C, 0, 0, 0x48] ∧
      byteSum (usageWriteBytes 200500300 ⟨false, true⟩ 0x00010A2C) = 0 := by decide

/-- R41: the handle after 255 is 1, and a held one is passed over. -/
theorem test_next_handle_wraps_and_skips :
    ({ Bus.initial with lastHandle := 255 } : Bus).nextHandle = 1 ∧
      ({ Bus.initial with lastHandle := 255, jobs := [Job.firstWake] } : Bus).nextHandle = 2 := by decide

/-- R53 and R39: what the lines mean. -/
theorem test_bus_signals :
    busSignal ⟨true, true⟩ ⟨true, false⟩ = .start ∧ busSignal ⟨true, false⟩ ⟨true, true⟩ = .stop ∧
      busSignal ⟨false, true⟩ ⟨true, true⟩ = .sample true ∧ arbitrationLost true false = true := by decide

/-- R173: the levels of 0xA5 on the line, read back as that byte, and a line error where the stop bit is low. -/
theorem test_uart_frame :
    lineFrame 0xA5 = [false, true, false, true, false, false, true, false, true, true] ∧
      lineRow (lineFrame 0xA5) = some (.hlByteReceived 0xA5) ∧ lineRow (List.replicate 10 false) = some .lineError := by decide

/-! ## Commands, one step each -/

/-- Section 6.5's cycle at nominal values: W = 12 nL and A = 12,464 vu. -/
theorem test_cycle_at_nominal_values :
    let r := (held .active genuine).station 2
    let s := ((held .active genuine).setStation 2 { r with
      volumes := ⟨true, ⟨48, 104, 196, 320⟩, #v[256, 243, 256, 256, 256]⟩
      meter := { r.meter with band := 1, fraction := 15000 } }).withMeter
        ⟨[⟨(Vector.replicate 8 Drops.zero).set 2 ⟨1200, 800, 300, 0⟩, some (Vector.replicate 8 (.degrees 24))⟩], []⟩
    let t := after (exec .cycleComputation s)
    ((t.station 2).meter.fraction, (t.station 2).meter.converted, t.meter.deliveries) = (12464, 12, [⟨2, 12⟩]) := by decide +kernel

/-- Section 6.6: a delivery of 4 nL into a debt of 1,998 under a reserve of 2,000 leaves 2 nL of dry overflow and raises RESERVOIR_DRY. -/
theorem test_delivery_into_the_debt :
    let r := State.reset.station 7
    let s := (State.reset.setStation 7 { r with
      config := { r.config with swapReserve := 2000 }, meter := { r.meter with debt := 1998 } }).withMeter ⟨[], [⟨7, 4⟩]⟩
    let t := after (exec (.wDelivery 7) s)
    ((t.station 7).meter.debt, (t.station 7).meter.dryOverflow, t.events.entries) =
      (2000, 2, [⟨.reservoirDry, some 7, 0, 1, 2⟩]) := by decide

/-- R132 with R120: an activation of no debt sets the saturation flag of a cartridge that already stands at the maximum. -/
theorem test_activation_of_a_saturated_cartridge :
    let full := { arriving with cause := some .noTag, account := some ⟨4294967295, 0, 0, ⟨false, false⟩⟩ }
    let t := after (exec .admitCartridge (asked (held .quarantined full) .admitCartridge [2]))
    ((t.station 2).cartridge.map (·.usedSaturated), t.events.entries.any (fun e => e.kind == .usedSaturated)) =
      (some true, true) := by decide +kernel

/-- R167 and R182: a condition raised and ended stands no more and is armed, and its entry stays. -/
theorem test_condition_raised_and_ended :
    let t := (State.reset.raiseCondition .busFault 1).endCondition .busFault
    (t.standing[Condition.busFault.number], t.events.armed[Condition.busFault.number], t.events.entries.length) = (none, true, 1) := by
  decide

/-- Section 9.8: the fetch of three from the mixed queue. -/
theorem test_fetch_from_a_mixed_queue :
    let e (n : BitVec 16) (k : EventKind) (p : Place) : EventEntry := ⟨k, p, n, 1, 0⟩
    let q := [e 410 .seated (some 3), e 411 .levelBand (some 1), e 412 .quarantined (some 3), e 413 .linkSync none,
      e 414 .refillSuspected (some 6)]
    let t := after (exec .getEvents (asked (State.reset.withEvents { State.reset.events with entries := q }) .getEvents [3]))
    (t.events.entries.map (·.sequence), (t.link.replies.map (fun r => r.body.take 2))) = ([410, 413], [[2, 3]]) := by decide

/-- Section 10.10: a complete frame with both slots held is discarded and the overrun flag set. -/
theorem test_third_frame_overruns :
    let s := State.reset.withLink { State.reset.link with
      receiver := .assembling [1], slots := [⟨.badFrame, true⟩, ⟨.badFrame, false⟩] }
    let t := after (exec .hlFrameComplete s)
    (t.link.slots.length, t.link.overrun, t.link.receiver) = (2, true, .hunting) := by decide

/-- Section 3.8, step 6: a lost arbitration keeps the three attempts. -/
theorem test_lost_arbitration_keeps_attempts :
    let t := after (exec .arbitrationLost (onBus State.reset .own [job .challenge .auth]))
    (t.bus.condition, t.bus.jobs.map (fun j => (j.state, j.attempts, j.lastFailure, j.timer))) =
      (.foreign, [(.retry, 3, .lost, none)]) := by decide

/-- R187: a station whose presence input is asserted at power-on is SEATED with its seat timer running, and WAKE is queued. -/
theorem test_power_on_seats_the_station :
    let t := after (exec .powerOn ((State.reset.withPowered false).withPresence ((Vector.replicate 8 false).set 0 true)))
    ((t.station 0).lifecycle, (t.station 0).seatTimer, (t.station 1).lifecycle, t.bus.jobs.map (·.kind)) =
      (.seated, true, .vacant, [.wake]) := by decide


/-- Section 2.6, step 7: five bytes of a usage write are BAD_AREA and leave the record; a whole one is committed when the tag finishes. -/
theorem test_tag_judges_usage_writes :
    let old := usageWriteBytes 200500000 ⟨false, false⟩ 0x00010A2C
    let new := usageWriteBytes 200500300 ⟨false, true⟩ 0x00010A2C
    let tag := Tag.powerUp ⟨List.replicate 24 0, old, List.replicate 32 0, none⟩
    let sent (bytes : List Byte) := (bytes.foldl (fun t b => (Tag.receive b t).1) (Tag.address 6 0x36 false tag).1).endWrite
    (sent (24 :: new.take 5)).status = .badArea ∧ (sent (24 :: new.take 5)).finish.contents.usage = old ∧
      (sent (24 :: new)).busy = true ∧ (sent (24 :: new)).finish.contents.usage = new := by decide +kernel

/-- R29 and R35: the repeated start of a broadcast write ends a partial usage write, which is BAD_AREA at a stop or at a byte that is not
WAKE's, and discarded without a status at WAKE's. A read of two bytes at byte 127 goes on at byte 0 and stops at the byte not acknowledged. -/
theorem test_tag_hears_a_broadcast :
    let tag := Tag.powerUp ⟨7 :: List.replicate 23 0, List.replicate 12 0, List.replicate 32 0, none⟩
    let partly := ([24, 1, 2] : List Byte).foldl (fun t b => (Tag.receive b t).1) (Tag.address 6 0x36 false tag).1
    let heard := (Tag.address 6 0 false partly).1
    let reading := (Tag.address 6 0x36 true { tag with pointer := 127 }).1
    (heard.endWrite.status, (heard.receive 1).1.status, (heard.receive 0x5B).1.endWrite.status, (heard.receive 0x5B).1.pointer) =
        (.badArea, .badArea, .accepted, 0) ∧
      (Tag.read 2 reading).2 = [0, 7] ∧ ((Tag.read 2 reading).1.send true).2 = none := by decide +kernel

/-! ## States and operands that meet the hypotheses of the statements -/

theorem up_reset : up State.reset ∧ serving State.reset := ⟨⟨rfl, rfl⟩, ⟨rfl, rfl⟩, rfl⟩

theorem handed_asked (kind : RequestKind) (body : List Byte) : handed (asked State.reset kind body) kind 7 body := ⟨⟨rfl, rfl⟩, rfl⟩

theorem witness_StepRunsFrontCommand :
    let j := { job .writeUsage .writeBack with phase := .between }
    let s := onBus State.reset .free [j]
    (State.reset.pending = [] ∧ ∀ k ∈ State.reset.bus.jobs, k.state = .active → k.phase ≠ .between) ∧
    (State.reset.withPending [.cycleEnd, .identify]).pending = .cycleEnd :: [.identify] ∧
    (s.pending = [] ∧ serving s ∧ running s .free [] j [] ∧ j.phase = .between ∧ j.target = some 2) := by
  simp only [serving, up, running, queued]; and_intros <;> decide +kernel

theorem witness_EveryReplyReportsThePart :
    (∃ t r, goesTo (exec .identify (asked State.reset .identify [])) t ∧
      t.link.replies = (asked State.reset .identify []).link.replies ++ [r]) ∧
    (∃ t r, goesTo (exec .getEvents (asked State.reset .getEvents [8])) t ∧
      t.link.replies = (asked State.reset .getEvents [8]).link.replies ++ [r]) ∧
    ∃ t r, goesTo (exec .authenticate (asked State.reset .authenticate [2])) t ∧
      t.link.replies = (asked State.reset .authenticate [2]).link.replies ++ [r] :=
  ⟨⟨_, _, rfl, rfl⟩, ⟨_, _, rfl, rfl⟩, ⟨_, _, rfl, rfl⟩⟩

/-- A checkpoint of the cartridge `genuine`. -/
def kept : Checkpoint := ⟨5, 3, 200000000, 2000, 1000, .genuine, ⟨false, false, false, false, false, false⟩⟩

/-- A departed entry. -/
def gone (n : Nat) : DepartedEntry :=
  ⟨BitVec.ofNat 64 (n + 100), 3, 200000000, 2000, 1000, .genuine, ⟨false, false, false, false, false, false⟩, n, 1⟩

/-- A table of n departed entries. -/
def table (n next : Nat) : DepartedTable := ⟨(List.range n).map gone, next⟩

theorem witness_PowerAndResetStartThePart :
    let s := State.reset
    ((s.withPowered false).withResetN false).powered = false ∧ ((s.withPowered false).withResetN false).resetN = false ∧
    (∀ i : Station, s.store.checkpoints[i] = none) ∧ (s.withPowered false).powered = false ∧ (s.withPowered false).resetN = true ∧
    (s.withResetN false).powered = true ∧ (s.withResetN false).resetN = false := by decide

/-- A start-up of each kind, with two held checkpoints: one whose serial the full stored table has, and one it has not. -/
theorem witness_StartUpFoldsCheckpoint :
    let s := State.reset.withStore { State.reset.store with
      departed := table 24 4294967294, checkpoints := (State.reset.store.checkpoints.set 2 (some { kept with serial := 100 })).set 7 (some kept) }
    let r : Reply := ⟨0x97, 7, .ok, 4, []⟩
    let last := s.withLink { s.link with engine := .stopped, replies := [r] }
    ((s.withPowered false).powered = false ∧ (s.withPowered false).resetN = true) ∧
    ((s.withResetN false).powered = true ∧ (s.withResetN false).resetN = false) ∧
    (up last ∧ last.link.engine = .stopped ∧ last.link.replies.length = 1 ∧ last.writes = []) ∧
    (foldedFrom s s.store).departed.entries.length = 24 ∧ (foldedFrom s s.store).events.entries.length = 1 ∧
    (foldedFrom s s.store).writes.length = 4 := by
  simp only [up]; decide +kernel

/-- State.reset with a retained-store write in progress. -/
def writing (item : StoreItem) (answers : Bool) : State := State.reset.withWrites [⟨item, answers⟩]

theorem witness_PowerLossKeepsOnlyTheStore :
    (State.reset.withPowered false).resetN = true ∧ (State.reset.withPowered false).powered = false ∧ State.reset.powered = true ∧
    State.reset.resetN = true ∧ State.reset.writes = [] ∧ (writing (.keyRevoked 3) true).writes = ⟨.keyRevoked 3, true⟩ :: [] ∧
    (writing (.departed (table 24 24)) false).writes = ⟨.departed (table 24 24), false⟩ :: [] ∧
    (writing (.checkpoint 7 none) false).writes = ⟨.checkpoint 7 none, false⟩ :: [] := ⟨rfl, rfl, rfl, rfl, rfl, rfl, rfl, rfl⟩

/-- The state while a request waits for its owner's answer. -/
def waiting (s : State) (kind : RequestKind) (body : List Byte) : State :=
  s.withLink { s.link with engine := .awaiting ⟨kind, 7, body⟩ }

theorem witness_StoreWriteReplacesItsItem :
    let ready (item : StoreItem) (answers : Bool) (s : State) :=
      up s ∧ s.writes = ⟨item, answers⟩ :: [] ∧ ∀ k, item ≠ .keyRevoked k
    ready (.departed (table 1 1)) false (writing (.departed (table 1 1)) false) ∧
    ready (.checkpoint 0 (some kept)) false (writing (.checkpoint 0 (some kept)) false) ∧
    (let s := waiting (writing (.departed (table 0 1)) true) .forget [1]
     ready (.departed (table 0 1)) true s ∧ s.link.engine = .awaiting ⟨.forget, 7, [1]⟩) ∧
    (let s := waiting (writing (.checkpoint 7 (some kept)) true) .shutdown []
     ready (.checkpoint 7 (some kept)) true s ∧ s.link.engine = .awaiting ⟨.shutdown, 7, []⟩) ∧
    (let s := waiting (writing (.departed (table 1 1)) true) .restart []
     ready (.departed (table 1 1)) true s ∧ s.link.engine = .awaiting ⟨.restart, 7, []⟩) := by
  simp only [up]; and_intros <;> first | rfl | (intro k h; cases h)

/-- Station 2 ACTIVE with `genuine`, whose key slot is 2. -/
theorem witness_RevocationReachesEveryActiveStation :
    let s := waiting ((held .active genuine).withWrites [⟨.keyRevoked 2, true⟩]) .revokeKey [2]
    up s ∧ s.writes = ⟨.keyRevoked 2, true⟩ :: [] ∧ (s.station 2).lifecycle = .active ∧ (s.station 2).cartridge = some genuine ∧
    (∃ id, genuine.identity = some id ∧ id.keyIndex = (2 : KeySlot).val) ∧ (s.station 0).lifecycle ≠ .active ∧
    s.link.engine = .awaiting ⟨.revokeKey, 7, [2]⟩ ∧
    (up (writing (.keyRevoked 3) false) ∧ (writing (.keyRevoked 3) false).writes = ⟨.keyRevoked 3, false⟩ :: []) :=
  ⟨⟨rfl, rfl⟩, rfl, rfl, rfl, ⟨_, rfl, rfl⟩, by decide, rfl, ⟨rfl, rfl⟩, rfl⟩

/-- The state with a key slot in a state. -/
def slotIs (s : State) (k : KeySlot) (state : KeyState) : State :=
  s.withStore { s.store with keySlots := s.store.keySlots.set k ⟨state, if state = .live then some 9 else none⟩ }

theorem witness_RevokedSlotStaysRevoked :
    let s := (slotIs State.reset 3 .revoked).withPending [.powerLoss true]
    (∃ t, goesTo (step s) t) ∧ (s.store.keySlots[(3 : KeySlot)]).state = .revoked := ⟨⟨_, rfl⟩, by decide⟩

/-- A checkpoint that is due, none, and a write that waits from before. -/
theorem witness_ShutdownHaltsAndCheckpoints :
    let s := held .active genuine
    let late := asked (writing (.checkpoint 2 none) false) .restart []
    (handed (asked s .shutdown []) .shutdown 7 [] ∧ checkpointsDue (asked s .shutdown []) = [] ++ [.checkpoint 2 (some kept)]) ∧
    (handed (asked State.reset .shutdown []) .shutdown 7 [] ∧ checkpointsDue (asked State.reset .shutdown []) = []) ∧
    (handed (asked s .restart []) .restart 7 [] ∧ checkpointsDue (asked s .restart []) = [] ++ [.checkpoint 2 (some kept)]) ∧
    (handed (asked State.reset .restart []) .restart 7 [] ∧ (asked State.reset .restart []).operating = .operating ∧
      checkpointsDue (asked State.reset .restart []) = [] ∧ (asked State.reset .restart []).writes = []) ∧
    (handed late .restart 7 [] ∧ late.operating = .operating ∧ checkpointsDue late = [] ∧
      late.writes = [] ++ [⟨.checkpoint 2 none, false⟩]) := by
  simp only [handed, up]; and_intros <;> decide +kernel

theorem witness_RestartFromHaltedStartsAfresh :
    let halted (s : State) := asked (s.withOperating .halted) .restart []
    let ready (s : State) := handed (halted s) .restart 7 [] ∧ (halted s).operating = .halted
    let r : Reply := ⟨0x97, 7, .ok, 4, []⟩
    let last (s : State) := s.withLink { s.link with engine := .stopped, replies := [r], slots := [⟨.badFrame, false⟩] }
    (ready (held .departing genuine) ∧ checkpointsDue (halted (held .departing genuine)) = [] ++ [.checkpoint 2 (some kept)]) ∧
    (ready State.reset ∧ checkpointsDue (halted State.reset) = [] ∧ (halted State.reset).writes = []) ∧
    (ready (writing (.departed (table 1 1)) false) ∧ checkpointsDue (halted (writing (.departed (table 1 1)) false)) = [] ∧
      (halted (writing (.departed (table 1 1)) false)).writes = [] ++ [⟨.departed (table 1 1), false⟩]) ∧
    (up (last State.reset) ∧ (last State.reset).link.engine = .stopped ∧ (last State.reset).link.replies = [r]) := by
  simp only [handed, up]; and_intros <;> decide +kernel

/-- R191: a RESTART without a checkpoint to write, behind a just departed cartridge's table, is answered when that table is stored. -/
theorem test_restart_waits_for_earlier_writes :
    let s := asked (writing (.departed (table 1 1)) false) .restart []
    let t := after (exec .restart s)
    let u := after (exec .retainedStoreWriteComplete t)
    (t.link.replies.length, t.operating, u.link.replies.map (fun r => (r.kind, r.flags)), u.link.engine == .stopped,
      u.store.departed.entries.length) = (0, .halted, [(0x97, 4)], true, 1) := by decide +kernel

/-! ### The host link -/

/-- A receiver that has taken these bytes after a sync byte. -/
def received (bytes : List Byte) : State := State.reset.withLink { State.reset.link with receiver := .assembling bytes }

/-- LEN 1, 2, 242 and 243, and bodies one byte short of a frame and whole. -/
theorem witness_ReceiverAssemblesBytes :
    up State.reset ∧ State.reset.link.receiver = .hunting ∧ (0xA4 : Byte) ≠ 0xA5 ∧ (received []).link.receiver = .assembling [] ∧
    (received [2, 1, 7, 0]).link.receiver = .assembling (2 :: [1, 7, 0]) ∧ 2 ≤ (2 : Byte).toNat ∧ ([1, 7, 0] : List Byte).length ≠ (2 : Byte).toNat + 2 ∧
    (242 : Byte).toNat ≤ 242 ∧ ([] : List Byte).length ≠ (242 : Byte).toNat + 2 ∧ (1 : Byte).toNat < 2 ∧ 242 < (243 : Byte).toNat ∧
    ([1, 7, 0, 0] : List Byte).length = (2 : Byte).toNat + 2 := by
  refine ⟨⟨rfl, rfl⟩, rfl, by decide, rfl, rfl, ?_⟩
  decide

theorem witness_CompleteFrameTakesSlotOrOverruns :
    (received [1]).link.receiver = .assembling (1 :: []) ∧ up (received [1]) ∧ (received [1]).link.slots.length < 2 ∧
    (let full := (received [243]).withLink { (received [243]).link with slots := [⟨.badFrame, true⟩, ⟨.badFrame, false⟩] }
     up full ∧ full.link.receiver = .assembling (243 :: []) ∧ 2 ≤ full.link.slots.length) ∧
    (received [2, 1, 7, 0, 0]).link.receiver = .assembling (2 :: 1 :: 7 :: ([] ++ [0, 0])) ∧
    (received [242]).link.receiver = .assembling (242 :: []) :=
  ⟨rfl, ⟨rfl, rfl⟩, by decide, ⟨⟨rfl, rfl⟩, rfl, by decide⟩, rfl, rfl⟩

theorem witness_RequestFrameIsReadBack :
    up State.reset ∧ State.reset.link.receiver = .hunting ∧ State.reset.link.slots.length < 2 ∧
    (List.replicate 240 (0xA5 : Byte)).length ≤ 240 := ⟨⟨rfl, rfl⟩, rfl, by decide, by decide +kernel⟩

theorem witness_PartialFrameIsDiscarded :
    up State.reset ∧ State.reset.link.receiver = .hunting ∧ up (received []) ∧ (received []).link.receiver = .assembling [] ∧
    up (received [242, 1]) ∧ (received [242, 1]).link.receiver = .assembling (242 :: [1]) ∧ 2 ≤ (242 : Byte).toNat ∧
    (242 : Byte).toNat ≤ 242 ∧ ([1] : List Byte).length ≠ (242 : Byte).toNat + 2 :=
  ⟨⟨rfl, rfl⟩, rfl, ⟨rfl, rfl⟩, rfl, ⟨rfl, rfl⟩, rfl, by decide, by decide, by decide⟩

/-- The state with a frame taken and one waiting. -/
def offered (s : State) (f : RxFrame) : State := s.withLink { s.link with slots := [⟨.badFrame, true⟩, ⟨f, false⟩] }

theorem witness_RequestsAreJudgedInOrder :
    let at_ (f : RxFrame) (s : State) := up s ∧ s.link.engine = .ready ∧ s.link.slots = [⟨.badFrame, true⟩] ++ ⟨f, false⟩ :: []
    let frame (kind : Byte) (body : List Byte) := at_ (.wellFormed kind 7 body) (offered State.reset (.wellFormed kind 7 body))
    up State.reset ∧ State.reset.link.slots = [] ∧ at_ .badFrame (offered State.reset .badFrame) ∧ frame 0 [] ∧ frame 24 [] ∧
    (frame 1 [9] ∧ requestCode .identify = (1 : Byte).toNat ∧ bodyLengthOk .identify 1 = false) ∧
    (frame 4 [8] ∧ requestCode .getStation = (4 : Byte).toNat ∧ bodyLengthOk .getStation 1 = true ∧
      namesStation .getStation = true ∧ 8 ≤ (8 : Byte).toNat) ∧
    (frame 4 [7] ∧ (7 : Byte).toNat < 8 ∧ State.reset.operating = .operating) ∧
    (at_ (.wellFormed 23 7 []) (offered (State.reset.withOperating .halted) (.wellFormed 23 7 [])) ∧
      requestCode .restart = (23 : Byte).toNat ∧ bodyLengthOk .restart 0 = true ∧ namesStation .restart = false) ∧
    (at_ (.wellFormed 22 7 []) (offered (State.reset.withOperating .halted) (.wellFormed 22 7 [])) ∧
      requestCode .shutdown = (22 : Byte).toNat ∧ bodyLengthOk .shutdown 0 = true ∧ namesStation .shutdown = false) := by
  simp only [up, offered, State.withOperating]
  decide

theorem witness_SentReplyFreesItsSlot :
    let r : Reply := ⟨0x81, 7, .ok, 0, []⟩
    let s := State.reset.withLink { State.reset.link with replies := [r], slots := [⟨.wellFormed 1 7 [], true⟩, ⟨.badFrame, false⟩] }
    up State.reset ∧ State.reset.link.replies = [] ∧ up s ∧ s.link.replies = r :: [] ∧
    s.link.slots = ⟨.wellFormed 1 7 [], true⟩ :: [⟨.badFrame, false⟩] ∧ s.link.engine ≠ .stopped :=
  ⟨⟨rfl, rfl⟩, rfl, ⟨rfl, rfl⟩, rfl, rfl, by decide⟩

/-! ### Requests that name no station -/

theorem witness_IdentifyAndGetStatusReportThePart :
    handed (asked State.reset .identify []) .identify 7 [] ∧ handed (asked State.reset .getStatus []) .getStatus 7 [] :=
  ⟨handed_asked _ _, handed_asked _ _⟩

/-- A CONFIG_PART body with other permilles than at start-up, and one with the same. -/
theorem witness_ConfigPartStoresClampedValues :
    let other : List Byte := [25, 25, 160, 30] ++ put 2 600 ++ put 2 0 ++ List.replicate 11 0
    let same : List Byte := [20, 30, 40, 50] ++ put 2 150 ++ put 2 50 ++ List.replicate 11 0
    let s := asked (held .active genuine) .configPart other
    let p : PartConfig := ⟨25, 26, 149, 150, 500, 1, 0, 10000, .warn, 1, .khz100⟩
    (handed s .configPart 7 other ∧ p.t1 = within 0 147 (le other 0 1) ∧ p.t2 = within (p.t1 + 1) 148 (le other 1 1) ∧
      p.t3 = within (p.t2 + 1) 149 (le other 2 1) ∧ p.t4 = within (p.t3 + 1) 150 (le other 3 1) ∧
      p.lowPermille = within 2 500 (le other 4 2) ∧ p.criticalPermille = within 1 (p.lowPermille - 1) (le other 6 2) ∧
      p.tolerance = within 0 10000000 (le other 8 4) ∧ p.quantum = within 10000 10000000 (le other 12 4) ∧ le other 16 1 ≠ 1 ∧
      p.pollSpacing = within 1 255 (le other 17 1) ∧ le other 18 1 ≠ 1 ∧ s.part.lowPermille ≠ p.lowPermille) ∧
    handed (asked State.reset .configPart same) .configPart 7 same ∧ State.reset.part.lowPermille = within 2 500 (le same 4 2) ∧
    State.reset.part.criticalPermille = within 1 149 (le same 6 2) := by
  simp only [handed, up]; and_intros <;> decide +kernel

theorem witness_RevokeKeyActsBySlotState :
    handed (asked State.reset .revokeKey [4]) .revokeKey 7 (4 :: []) ∧ 4 ≤ (4 : Byte).toNat ∧
    (let s := asked (slotIs State.reset 3 .empty) .revokeKey [3]
     handed s .revokeKey 7 (3 :: []) ∧ (3 : Byte).toNat = (3 : KeySlot).val ∧ (s.store.keySlots[(3 : KeySlot)]).state = .empty) ∧
    (let s := asked (slotIs State.reset 0 .revoked) .revokeKey [0]
     handed s .revokeKey 7 (0 :: []) ∧ (s.store.keySlots[(0 : KeySlot)]).state = .revoked) ∧
    (handed (asked State.reset .revokeKey [3]) .revokeKey 7 (3 :: []) ∧
      ((asked State.reset .revokeKey [3]).store.keySlots[(3 : KeySlot)]).state = .live) :=
  ⟨handed_asked _ _, by decide, ⟨⟨⟨rfl, rfl⟩, rfl⟩, rfl, by decide⟩, ⟨⟨⟨rfl, rfl⟩, rfl⟩, by decide⟩, handed_asked _ _, by decide⟩

/-- One state for each of the four clauses: to HOST, to LINK, a LINK with another period, and the settings as they are. -/
theorem witness_ConfigLinkChangesSourceAndAlignment :
    let toHost : List Byte := [1] ++ put 2 1000 ++ [3, 32, 8]
    let toLink : List Byte := [0] ++ put 2 1000 ++ [3, 32, 9]
    let slower : List Byte := [0] ++ put 2 65535 ++ [4, 32, 8]
    let host := State.reset.withTally { State.reset.tally with source := .host, aligner := .off }
    (handed (asked State.reset .configLink toHost) .configLink 7 toHost ∧ le toHost 0 1 = 1 ∧ State.reset.tally.source = .link) ∧
    (handed (asked host .configLink toLink) .configLink 7 toLink ∧ le toLink 0 1 = 0 ∧ host.tally.source = .host) ∧
    (handed (asked State.reset .configLink slower) .configLink 7 slower ∧ le slower 0 1 = 0 ∧
      within 100 65535 (le slower 1 2) ≠ State.reset.tally.config.nominalPeriod ∧ within 3 4 (le slower 3 1) ≠ 3) ∧
    (handed (asked State.reset .configLink toLink) .configLink 7 toLink ∧
      within 100 65535 (le toLink 1 2) = State.reset.tally.config.nominalPeriod ∧ within 3 4 (le toLink 3 1) = 3) ∧
    (let wide := State.reset.withTally { State.reset.tally with
      config := { State.reset.tally.config with counterWidth := 10 }, markerErrors := 256, checkErrors := 255 }
     handed (asked wide .configLink toHost) .configLink 7 toHost ∧ wide.tally.config.counterWidth = 10 ∧ le toHost 5 1 < 9 ∧
       255 < wide.tally.markerErrors ∧ ¬ 255 < wide.tally.checkErrors) :=
  ⟨⟨handed_asked _ _, by decide, rfl⟩, ⟨⟨⟨rfl, rfl⟩, rfl⟩, by decide, rfl⟩, ⟨handed_asked _ _, by decide, by decide, by decide⟩,
    ⟨handed_asked _ _, by decide, by decide⟩, ⟨⟨rfl, rfl⟩, rfl⟩, rfl, by decide, by decide, by decide⟩

theorem witness_ReadLinkReportsThenClears :
    handed (asked State.reset .readLink [0xFE]) .readLink 7 (0xFE :: []) ∧ (0xFE : Byte).getLsbD 0 = false ∧
    handed (asked State.reset .readLink [1]) .readLink 7 (1 :: []) ∧ (1 : Byte).getLsbD 0 = true :=
  ⟨handed_asked _ _, by decide, handed_asked _ _, by decide⟩

/-- Counts of 8185, above the largest, and temperature bytes of 255 at every station. -/
theorem witness_TallyCommitsUnderHost :
    let body : List Byte := (List.replicate 8 (put 2 8185 ++ put 2 0 ++ put 2 0 ++ put 2 0 ++ [255])).flatten
    let cycle : CommittedCycle := ⟨Vector.replicate 8 ⟨8184, 0, 0, 0⟩, some (Vector.replicate 8 .sensorFault)⟩
    let host := State.reset.withTally { State.reset.tally with source := .host, aligner := .off }
    handed (asked host .tally body) .tally 7 body ∧ (asked host .tally body).tally.source = .host ∧
    cycle.temps = some (Vector.replicate 8 .sensorFault) ∧
    (∀ i : Station, cycle.counts[i] = ⟨min 8184 (le body (9 * i.val) 2), min 8184 (le body (9 * i.val + 2) 2),
        min 8184 (le body (9 * i.val + 4) 2), min 8184 (le body (9 * i.val + 6) 2)⟩ ∧ le body (9 * i.val + 8) 1 = 255) ∧
    (asked State.reset .tally body).tally.source = .link :=
  ⟨⟨⟨rfl, rfl⟩, rfl⟩, rfl, rfl, by decide +kernel, rfl⟩

theorem witness_DepartedTableIsListedAndForgotten :
    let s := State.reset.withDeparted (table 24 24)
    handed (asked s .listDeparted [23]) .listDeparted 7 (23 :: []) ∧ handed (asked s .forget [1]) .forget 7 (1 :: []) ∧
    (handed (asked s .forget (0 :: put 8 100)) .forget 7 (0 :: put 8 100) ∧ (100 : Serial).toNat = le (put 8 100) 0 8 ∧
      ∃ e ∈ s.departed.entries, e.serial = 100) ∧
    (handed (asked s .forget (0 :: put 8 99)) .forget 7 (0 :: put 8 99) ∧ (99 : Serial).toNat = le (put 8 99) 0 8 ∧
      ∀ e ∈ s.departed.entries, e.serial ≠ 99) :=
  ⟨⟨⟨rfl, rfl⟩, rfl⟩, ⟨⟨rfl, rfl⟩, rfl⟩, ⟨⟨⟨rfl, rfl⟩, rfl⟩, by decide +kernel, by decide +kernel⟩,
    ⟨⟨rfl, rfl⟩, rfl⟩, by decide +kernel, by decide +kernel⟩

/-- A queue of two entries. -/
def twoEvents : List EventEntry := [⟨.seated, some 3, 410, 1, 0⟩, ⟨.quarantined, some 3, 412, 255, 4⟩]

theorem witness_GetEventsTakesMostUrgentFirst :
    let s := State.reset.withEvents { State.reset.events with entries := twoEvents }
    handed (asked s .getEvents [0]) .getEvents 7 (0 :: []) ∧ pairsDistinct (asked s .getEvents [0]).events.entries :=
  ⟨⟨⟨rfl, rfl⟩, rfl⟩, by show pairsDistinct twoEvents; simp [pairsDistinct, twoEvents]⟩

theorem witness_SetMaskReplacesTheMask :
    handed (asked State.reset .setMask [255, 255, 255, 255]) .setMask 7 [255, 255, 255, 255] := handed_asked _ _

/-- 32 entries, the lowest severity among them a NOTICE. -/
def fullQueue : EventQueue :=
  { EventQueue.initial with
    entries := ⟨.seated, none, 0, 1, 0⟩ :: (List.range 31).map (fun n => ⟨.levelBand, some 1, BitVec.ofNat 16 n, 1, 0⟩) }

/-- 32 entries, every one of them an ALERT. -/
def alertQueue : EventQueue :=
  { EventQueue.initial with entries := (List.range 32).map (fun n => ⟨.quarantined, some 1, BitVec.ofNat 16 n, 1, 0⟩) }

theorem witness_RaisesReachTheQueue :
    ({ EventQueue.initial with mask := 2 } : EventQueue).mask.getLsbD (eventCode .quarantined) = true ∧
    ({ EventQueue.initial with armed := EventQueue.initial.armed.set 29 false } : EventQueue).armed[Condition.linkErrors.number] = false ∧
    EventQueue.initial.mask.getLsbD (eventCode .quarantined) = false ∧
    (({ EventQueue.initial with entries := twoEvents } : EventQueue).entries = [] ++ ⟨.seated, some 3, 410, 1, 0⟩ :: [⟨.quarantined, some 3, 412, 255, 4⟩]) ∧
    EventQueue.initial.entries.length < 32 ∧
    (∃ post, fullQueue.entries = [] ++ ⟨.seated, none, 0, 1, 0⟩ :: post ∧ 32 ≤ fullQueue.entries.length ∧
      (∀ x ∈ fullQueue.entries, ¬ (x.kind = .quarantined ∧ x.place = none)) ∧
      ∀ x ∈ post, severityCode x.kind.severity ≤ severityCode EventKind.seated.severity) ∧
    severityCode EventKind.quarantined.severity ≤ severityCode EventKind.seated.severity ∧
    (∃ post, alertQueue.entries = [] ++ ⟨.quarantined, some 1, 0, 1, 0⟩ :: post ∧ 32 ≤ alertQueue.entries.length ∧
      (∀ x ∈ alertQueue.entries, ¬ (x.kind = .seated ∧ x.place = none)) ∧
      ∀ x ∈ post, severityCode x.kind.severity ≤ severityCode EventKind.quarantined.severity) ∧
    severityCode EventKind.quarantined.severity < severityCode EventKind.seated.severity ∧
    State.reset.standing[Condition.linkErrors.number] = none ∧
    (State.reset.raiseCondition .linkErrors 1).standing[Condition.linkErrors.number] ≠ none :=
  ⟨by decide, by decide, by decide, rfl, by decide, ⟨_, rfl, by decide +kernel, by decide +kernel, by decide +kernel⟩, by decide,
    ⟨_, rfl, by decide +kernel, by decide +kernel, by decide +kernel⟩, by decide, by decide, by decide⟩

/-! ### Requests that name a station -/

theorem witness_GetStationReportsThenClearsFlags :
    let s := asked (held .active genuine) .getStation [2]
    handed s .getStation 7 (2 :: []) ∧ (2 : Byte).toNat = (2 : Station).val ∧ s.context 2 = none ∧
    (s.station 2).cartridge = some genuine ∧ (∃ id, genuine.identity = some id) ∧ genuine.capacity = some 200000000 ∧
    (∃ a, genuine.account = some a) ∧
    (let c := { arriving with cause := some .refill, band := some .low, origin := some (.restored .refilled) }
     let q := asked (held .quarantined c) .getStation [2]
     handed q .getStation 7 (2 :: []) ∧ (q.station 2).cartridge = some c) ∧
    (let v := asked ((held .authenticating arriving).setContext 2 (some (context .verify false))) .getStation [2]
     handed v .getStation 7 (2 :: []) ∧ v.context 2 = some (context .verify false)) ∧
    handed (asked State.reset .getStation [7]) .getStation 7 (7 :: []) ∧ (7 : Byte).toNat = (7 : Station).val ∧
    ((asked State.reset .getStation [7]).station 7).cartridge = none :=
  ⟨⟨⟨rfl, rfl⟩, rfl⟩, rfl, rfl, rfl, ⟨_, rfl⟩, rfl, ⟨_, rfl⟩, ⟨⟨⟨rfl, rfl⟩, rfl⟩, rfl⟩,
    ⟨⟨⟨rfl, rfl⟩, rfl⟩, rfl⟩, handed_asked _ _, rfl, rfl⟩

/-- Reserves below, at and above a debt of 10, with the ink sense turned on, off and left alone. -/
theorem witness_ConfigStationStoresClampedValues :
    let rest (reserve enable : Nat) : List Byte := put 2 3 ++ put 4 0 ++ put 4 reserve ++ put 4 0 ++ put 1 enable
    let s (enable : Bool) := State.reset.setStation 0 { State.reset.station 0 with
      meter := { Metering.initial with debt := 10 }, config := { StationConfig.initial with inkSenseEnable := enable } }
    let set_ (enable : Bool) (reserve turned : Nat) :=
      handed (asked (s enable) .configStation (0 :: rest reserve turned)) .configStation 7 (0 :: rest reserve turned)
    (set_ true 9 0 ∧ within 0 50000000 (le (rest 9 0) 6 4) < 10 ∧ decide (le (rest 9 0) 14 1 ≠ 0) = false) ∧
    (set_ false 10 255 ∧ within 0 50000000 (le (rest 10 255) 6 4) = 10 ∧ decide (le (rest 10 255) 14 1 ≠ 0) = true) ∧
    (set_ true 11 1 ∧ 10 < within 0 50000000 (le (rest 11 1) 6 4) ∧ decide (le (rest 11 1) 14 1 ≠ 0) = true) ∧
    ((s true).station 0).meter.debt = 10 ∧ ((s true).station 0).config.inkSenseEnable = true :=
  ⟨⟨⟨⟨rfl, rfl⟩, rfl⟩, by decide, by decide⟩, ⟨⟨⟨rfl, rfl⟩, rfl⟩, by decide, by decide⟩, ⟨⟨⟨rfl, rfl⟩, rfl⟩, by decide, by decide⟩, by decide, by decide⟩

theorem witness_SetVolumesMakesTableValid :
    let rest : List Byte := List.replicate 18 255
    let v : VolumeTable := ⟨true, ⟨4095, 4095, 4095, 4095⟩, #v[384, 384, 384, 384, 384]⟩
    handed (asked State.reset .setVolumes (7 :: rest)) .setVolumes 7 (7 :: rest) ∧ (7 : Byte).toNat = (7 : Station).val ∧
    v.valid = true ∧ v.volumes = ⟨within 0 4095 (le rest 0 2), within 0 4095 (le rest 2 2), within 0 4095 (le rest 4 2),
      within 0 4095 (le rest 6 2)⟩ ∧ (∀ k : Fin 5, v.factors[k] = within 128 384 (le rest (8 + 2 * k.val) 2)) :=
  ⟨handed_asked _ _, rfl, rfl, by decide, by decide⟩

/-- An UNVERIFIED cartridge, without a tag's figures. -/
def tagless : CartridgeRecord :=
  { CartridgeRecord.fresh with trust := .unverified, capacity := some 100000000, account := some ⟨0, 0, 0, ⟨false, false⟩⟩ }

theorem witness_ReleaseSendsTheCartridgeAway :
    let body : List Byte := [2]
    let at_ (l : Lifecycle) (c : CartridgeRecord) := asked (held l c) .release body
    let ready (l : Lifecycle) (c : CartridgeRecord) :=
      handed (at_ l c) .release 7 (2 :: []) ∧ ((at_ l c).station 2).lifecycle = l ∧ ((at_ l c).station 2).cartridge = some c
    ready .departing genuine ∧ (ready .active genuine ∧ genuine.trust = .genuine) ∧ (ready .active tagless ∧ tagless.trust = .unverified) ∧
    (ready .quarantined { genuine with cause := some .refill } ∧ genuine.authenticated = true) ∧
    (ready .quarantined { arriving with cause := some .noResponse } ∧ arriving.authenticated = false) ∧
    (let q := { job .challenge .auth with state := .queued }
     let s := (onBus (at_ .active genuine) .free [q]).setContext 2 (some (context .challenge true))
     handed s .release 7 (2 :: []) ∧ s.context 2 ≠ none ∧ q ∈ s.bus.jobs ∧ q ∉ (withoutContext s 2).bus.jobs) := by
  simp only [handed, up]; decide +kernel

theorem witness_WriteBackRequestsMerge :
    let j := { job .writeUsage .writeBack with state := .queued }
    let k := job .writeUsage .writeBack
    (∀ x ∈ State.reset.bus.jobs, ¬ (x.kind = .writeUsage ∧ x.target = some 2)) ∧ nextFree State.reset 2 ∧
    (onBus State.reset .free [j]).bus.jobs = [] ++ j :: [] ∧ j.state = .queued ∧ j.kind = .writeUsage ∧ j.target = some 2 ∧
    (onBus State.reset .own [k]).bus.jobs = [] ++ k :: [] ∧ k.state ≠ .queued ∧ k.kind = .writeUsage := by
  simp only [nextFree]; decide +kernel

/-- The handle after 255, the one after a held 1, and, for the AUTH job of an abandoned context, none. -/
theorem witness_AuthenticateStartsAContext :
    let at_ (l : Lifecycle) (c : CartridgeRecord) (jobs : List Job) :=
      asked ((held l c).withBus { Bus.initial with lastHandle := 255, jobs }) .authenticate [2]
    let ready (l : Lifecycle) (c : CartridgeRecord) :=
      handed (at_ l c []) .authenticate 7 (2 :: []) ∧ ((at_ l c []).station 2).lifecycle = l ∧
        ((at_ l c []).station 2).cartridge = some c ∧ (at_ l c []).context 2 = none ∧ nextFree (at_ l c []) 1
    let abandoned := { job .challenge .auth with disowned := true }
    ready .departing genuine ∧ (ready .active tagless ∧ tagless.trust = .unverified) ∧ (ready .active genuine ∧ genuine.trust = .genuine) ∧
    ready .released genuine ∧ (ready .quarantined { arriving with cause := some .noResponse } ∧ arriving.authenticated = false) ∧
    nextFree (at_ .active genuine [Job.firstWake]) 2 ∧
    (handed (at_ .released genuine [abandoned]) .authenticate 7 (2 :: []) ∧ authBusy (at_ .released genuine [abandoned]) 2) ∧
    (let c := { genuine with cause := some .refill }
     let w := { job .writeUsage .writeBack with handle := 1, state := .queued }
     let s := at_ .quarantined c [w]
     handed s .authenticate 7 (2 :: []) ∧ (s.station 2).lifecycle = .quarantined ∧ (s.station 2).cartridge = some c ∧
       c.authenticated = true ∧ (s.station 2).cartridge.bind accountOf = some kept ∧
       nextFree (s.withBus { s.bus with jobs := withdrawnJobs s.bus.jobs 2 }) 1) := by
  simp only [handed, up, nextFree]; and_intros <;> decide +kernel

/-- The accepted cases: a REFILL with a debt under a reserve, an authenticated cartridge admitted for another cause, and records whose figures
come from the tag and from the default. -/
theorem witness_AdmitRefusesOrActivates :
    let q (c : CartridgeRecord) (cause : QuarantineCause) := { c with cause := some cause }
    let at_ (c : CartridgeRecord) := asked (held .quarantined c) .admitCartridge [2]
    let ready (c : CartridgeRecord) (cause : QuarantineCause) :=
      handed (at_ (q c cause)) .admitCartridge 7 (2 :: []) ∧ ((at_ (q c cause)).station 2).lifecycle = .quarantined ∧
        ((at_ (q c cause)).station 2).cartridge = some (q c cause)
    let unrevoked (c : CartridgeRecord) (cause : QuarantineCause) :=
      ((at_ (q c cause)).store.keySlots[(2 : KeySlot)]).state ≠ .revoked
    let bare := { CartridgeRecord.fresh with identity := none, account := none }
    handed (asked (held .active genuine) .admitCartridge [2]) .admitCartridge 7 (2 :: []) ∧ ready arriving .wrongInk ∧
    ready arriving .keyRevoked ∧
    (let s := slotIs (at_ (q genuine .refill)) 2 .revoked
     handed s .admitCartridge 7 (2 :: []) ∧ (s.store.keySlots[(2 : KeySlot)]).state = .revoked) ∧
    (let s := (at_ (q arriving .duplicate)).setStation 0 { StationRec.initial with lifecycle := .active, cartridge := some genuine }
     handed s .admitCartridge 7 (2 :: []) ∧ (s.station 0).cartridge = some genuine) ∧
    (ready genuine .refill ∧ unrevoked genuine .refill ∧ genuine.account = some ⟨2000, 1000, 1000, ⟨false, false⟩⟩ ∧
      genuine.capacity = some 200000000) ∧
    (ready genuine .noTag ∧ unrevoked genuine .noTag ∧ genuine.authenticated = true) ∧
    (ready { arriving with account := none } .keyAbsent ∧ unrevoked { arriving with account := none } .keyAbsent ∧
      arriving.identity = some ⟨5, 3, 2, 1, 1000, ⟨false, false⟩⟩ ∧ arriving.capacity = some 200000000) ∧
    (ready bare .noTag ∧ bare.identity = none ∧ bare.account = none ∧ bare.authenticated = false) := by
  simp only [handed, up]; and_intros <;> decide +kernel

/-- R9, R132, R163: an entry to ACTIVE charges the debt of a station under its reserve and raises ACTIVATED with the class. -/
theorem test_admission_charges_the_debt :
    let s := held .quarantined { genuine with cause := some .refill }
    let r := s.station 2
    let t := after (exec .admitCartridge (asked (s.setStation 2 { r with meter := { r.meter with debt := 500 } }) .admitCartridge [2]))
    ((t.station 2).cartridge.bind (·.account) |>.map (·.used), (t.station 2).meter.debt, (t.station 2).meter.charged,
      t.events.entries.map (fun e => (e.kind, e.value))) = (some 2500, 0, 500, [(.activated, 1)]) := by decide +kernel

/-- Reads of 1 and 32 bytes to the tag's end, and of 33; writes at 64 and one past 95; and four host jobs. -/
theorem witness_TagRequestsQueueHostJobs :
    let s := held .active genuine
    let fresh (x : State) := nextFree x 2
    let read (offset n : Byte) := handed (asked s .tagRead [2, offset, n]) .tagRead 7 (2 :: offset :: [n])
    let write (offset : Byte) := handed (asked s .tagWrite [2, offset, 9]) .tagWrite 7 (2 :: offset :: [9])
    (read 127 1 ∧ (127 : Byte).toNat + 1 ≤ 128) ∧ (read 96 32 ∧ (96 : Byte).toNat + 32 ≤ 128) ∧ (read 0 33 ∧ ¬ (33 : Nat) ≤ 32) ∧
    (read 97 32 ∧ ¬ (97 : Byte).toNat + 32 ≤ 128) ∧ (write 95 ∧ 64 ≤ (95 : Byte).toNat ∧ (95 : Byte).toNat + 1 ≤ 96) ∧
    (write 63 ∧ ¬ 64 ≤ (63 : Byte).toNat) ∧ fresh s ∧
    (handed (asked State.reset .tagRead [2, 0, 1]) .tagRead 7 (2 :: 0 :: [1]) ∧ (State.reset.station 2).lifecycle = .vacant) ∧
    (let four := s.withBus { s.bus with results := List.replicate 4 ⟨9, 2, .hostRead, .done, .none, []⟩ }
     handed (asked four .tagRead [2, 0, 1]) .tagRead 7 (2 :: 0 :: [1]) ∧
       4 ≤ (four.bus.jobs.filter (fun j => j.kind = .hostRead ∨ j.kind = .hostWrite)).length + four.bus.results.length) := by
  simp only [handed, up, nextFree]; decide +kernel

theorem witness_GetJobAnswersByHandle :
    let e : HostResult := ⟨9, 2, .hostRead, .done, .none, [1]⟩
    let s := asked (State.reset.withBus { State.reset.bus with results := [e] }) .getJob [9]
    let j := job .hostWrite .host
    let t := asked (onBus State.reset .own [j]) .getJob [9]
    (handed s .getJob 7 (9 :: []) ∧ s.bus.results = [] ++ e :: [] ∧ e.handle = (9 : Byte).toNat) ∧
    (handed t .getJob 7 (9 :: []) ∧ (∀ x ∈ t.bus.results, x.handle ≠ (9 : Byte).toNat) ∧ queued t [] j [] ∧ j.kind = .hostWrite) ∧
    (handed (asked State.reset .getJob [1]) .getJob 7 (1 :: []) ∧
      ∀ x ∈ State.reset.bus.jobs, x.handle = (1 : Byte).toNat → x.kind ≠ .hostRead ∧ x.kind ≠ .hostWrite) := by
  simp only [handed, up, queued]; decide +kernel

theorem witness_AbortJobEndsHostJob :
    let j := job .hostRead .host
    let waits := { j with state := .queued }
    let at_ (k : Job) (b : Byte) := asked (onBus State.reset .own [k]) .abortJob [b]
    (handed (asked State.reset .abortJob [0]) .abortJob 7 (0 :: []) ∧
      ∀ k ∈ State.reset.bus.jobs, k.kind ≠ .hostRead ∧ k.kind ≠ .hostWrite) ∧
    (handed (at_ waits 0) .abortJob 7 (0 :: []) ∧ queued (at_ waits 0) [] waits [] ∧ waits.state ≠ .active ∧ waits.target = some 2 ∧
      waits.followOn = none ∧ waits.cls = .host ∧ waits.handle ≠ 0) ∧
    (handed (at_ j 9) .abortJob 7 (9 :: []) ∧ queued (at_ j 9) [] j [] ∧ (9 : Byte).toNat = j.handle ∧ j.state = .active ∧
      (at_ j 9).bus.condition = .own ∧ j.cut = none) := by
  simp only [handed, up, queued]; decide +kernel

/-! ### The stations -/

theorem witness_PresenceMovesTheStation :
    let high := State.reset.withPresence (Vector.replicate 8 true)
    serving State.reset ∧ State.reset.presence[(7 : Station)] = false ∧ serving high ∧ high.presence[(7 : Station)] = true ∧
    (State.reset.station 7).lifecycle = .vacant ∧
    (let s := State.reset.setStation 2 { State.reset.station 2 with lifecycle := .seated, seatTimer := true }
     serving s ∧ (s.station 2).lifecycle = .seated ∧ s.presence[(2 : Station)] = false) ∧
    (let s := (held .active genuine).withPresence (Vector.replicate 8 true)
     serving s ∧ (s.station 2).lifecycle ≠ .vacant ∧ (s.station 2).lifecycle ≠ .seated ∧ s.presence[(2 : Station)] = true ∧
       up (s.withOperating .halted) ∧ (s.withOperating .halted).operating = .halted) := by
  simp only [serving, up]; decide +kernel

theorem witness_SeatTimerStartsIdentification :
    let s := State.reset.setStation 2 { State.reset.station 2 with lifecycle := .seated, seatTimer := true }
    serving s ∧ (s.station 0).seatTimer = false ∧ (s.station 2).lifecycle = .seated ∧ (s.station 2).seatTimer = true ∧
    nextFree s 2 ∧ authBusy (onBus s .own [{ job .readId .auth with disowned := true }]) 2 := by
  simp only [serving, up, nextFree]; decide +kernel

/-- The state with a station's removal timer running. -/
def leaving (l : Lifecycle) (c : CartridgeRecord) : State :=
  State.reset.setStation 2 { State.reset.station 2 with lifecycle := l, removalTimer := true, cartridge := some c }

theorem witness_RemovalTearsTheStationDown :
    serving State.reset ∧ (State.reset.station 2).removalTimer = false ∧
    (let s := leaving .active genuine
     serving s ∧ (s.station 2).removalTimer = true ∧ (s.station 2).lifecycle = .active ∧
       (s.station 2).cartridge.bind accountOf = some kept) ∧
    (let s := leaving .identifying arriving
     serving s ∧ (s.station 2).removalTimer = true ∧ (s.station 2).lifecycle = .identifying) ∧
    (leaving .quarantined { arriving with cause := some .noTag } |>.station 2).cartridge.bind accountOf = none := by
  simp only [serving, up]; decide +kernel

/-- The table with 23 and with 24 entries, with the serial and without it, and the counter at its end. -/
theorem witness_InsertionMergesEvictsAndAppends :
    let t := table 24 24
    (t.entries = [] ++ gone 0 :: t.entries.tail ∧ (gone 0).serial = 100 ∧ (∀ x ∈ [] ++ t.entries.tail, x.serial ≠ 100) ∧
      ([] ++ t.entries.tail).length < 24) ∧
    ((∀ x ∈ (table 23 4294967295).entries, x.serial ≠ 5) ∧ (table 23 4294967295).entries.length < 24) ∧
    ((∀ x ∈ t.entries, x.serial ≠ 5) ∧ t.entries = gone 0 :: t.entries.tail ∧ 24 ≤ t.entries.length) := by decide +kernel

theorem witness_InkSenseTakesReadings :
    let s (l : Lifecycle) (ink : InkSense) := State.reset.setStation 2 { State.reset.station 2 with
      lifecycle := l, cartridge := some genuine, ink, config := { StationConfig.initial with inkSenseEnable := true } }
    serving State.reset ∧ State.reset.inkInputs[(2 : Station)] = false ∧ (State.reset.station 2).config.inkSenseEnable = false ∧
    (serving (s .active ⟨true, true, some false, some false⟩) ∧
      ((s .active ⟨true, true, some false, some false⟩).station 2).config.inkSenseEnable = true) ∧
    (State.reset.station 2).ink.settle = false ∧ ((s .active ⟨true, true, some true, none⟩).station 2).ink.settle = true ∧
    ((s .released ⟨true, true, some false, some true⟩).station 2).lifecycle ≠ .active ∧
    ((s .active ⟨true, true, none, none⟩).station 2).ink.reading = none ∧
    (let h := (s .active ⟨true, true, none, none⟩).withOperating .halted
     up h ∧ h.operating = .halted ∧ (h.station 2).config.inkSenseEnable = true ∧ h.inkInputs[(2 : Station)] ≠ true) := by
  simp only [serving, up]; decide +kernel

theorem witness_EvidenceChangesTheRecord :
    (((held .active genuine).station 2).cartridge = some genuine ∧ genuine.authenticated = true ∧ genuine.refillMark = false) ∧
    (let s := (held .active genuine).withPart { PartConfig.initial with policy := .quarantine }
     (s.station 2).cartridge = some genuine ∧ s.part.policy = .quarantine ∧ s.operating = .operating ∧ (s.station 2).lifecycle = .active) ∧
    (((held .authenticating arriving).station 2).cartridge = some arriving ∧ arriving.authenticated = false) ∧
    (((held .active tagless).station 2).cartridge = some tagless ∧ tagless.authenticated = false) :=
  ⟨⟨rfl, rfl, rfl⟩, ⟨rfl, rfl, rfl, rfl⟩, ⟨rfl, rfl⟩, rfl, rfl⟩

/-- R152 and R142: a first kind of evidence in ACTIVE asks for a write-back and writes the checkpoint once; the same kind again writes none. -/
theorem test_evidence_writes_one_checkpoint :
    let t := (held .active genuine).recordEvidence 2 .conflict
    let u := t.recordEvidence 2 .conflict
    (t.writes.map (·.item) = [.checkpoint 2 (some { kept with cls := .refilled, evidence := ⟨false, false, false, false, false, true⟩ })] ∧
      t.bus.jobs.any (fun j => j.kind == .writeUsage && j.target == some 2) = true) ∧
    u.writes.length = 1 ∧ u.events.entries.map (·.count) = [2] := by decide +kernel

/-- A debt that the delivery brings to the reserve exactly, and one past it. -/
theorem witness_DeliveriesGoWhereTheStateSends :
    let owe (debt : Nat) := (State.reset.setStation 2 { State.reset.station 2 with
      meter := { Metering.initial with debt } }).withMeter ⟨[], [⟨0, 1⟩, ⟨2, 4⟩]⟩
    up State.reset ∧ (∀ d ∈ State.reset.meter.deliveries, d.station ≠ 2) ∧
    (up (owe 9999996) ∧ (owe 9999996).meter.deliveries = [⟨0, 1⟩] ++ ⟨2, 4⟩ :: [] ∧ ((owe 9999996).station 2).lifecycle = .vacant ∧
      ((owe 9999996).station 2).meter.debt + 4 ≤ ((owe 9999996).station 2).config.swapReserve) ∧
    (((owe 9999997).station 2).meter.debt ≤ ((owe 9999997).station 2).config.swapReserve ∧
      ((owe 9999997).station 2).config.swapReserve < ((owe 9999997).station 2).meter.debt + 4) ∧
    (let s := (held .departing genuine).withMeter ⟨[], [⟨2, 4⟩]⟩
     up s ∧ s.meter.deliveries = [] ++ ⟨2, 4⟩ :: [] ∧ (s.station 2).lifecycle = .departing ∧ (s.station 2).cartridge = some genuine ∧
       genuine.account = some ⟨2000, 1000, 1000, ⟨false, false⟩⟩ ∧ genuine.capacity = some 200000000) ∧
    ((owe 9999996).station 2).meter.dryOverflow ≤ 4294967295 := by
  simp only [up]; decide +kernel

/-- A charge that brings the overdraw one nanolitre beyond the reserve and the tolerance. -/
theorem witness_Deliveries_overdraw :
    let c := { genuine with account := some ⟨211999997, 1000, 1000, ⟨false, false⟩⟩, emptyRaised := true, emptyLatch := true,
                            band := some .empty }
    let s := (held .active c).withMeter ⟨[], [⟨2, 4⟩]⟩
    let t := chargedWith (s.withMeter ⟨[], []⟩) 2 4 c ⟨211999997, 1000, 1000, ⟨false, false⟩⟩ 200000000
    up s ∧ s.meter.deliveries = [] ++ ⟨2, 4⟩ :: [] ∧ (s.station 2).lifecycle = .active ∧ (s.station 2).cartridge = some c ∧
    c.account = some ⟨211999997, 1000, 1000, ⟨false, false⟩⟩ ∧ c.capacity = some 200000000 ∧ c.overdrawRaised = false ∧
    (t.station 2).cartridge.map (fun x => (x.overdrawRaised, x.evidence.overdraw, x.trust)) = some (true, true, .refilled) := by
  simp only [up]; decide +kernel

/-! ### The cartridge bus -/

/-- A quantifier over stations in the form that can be decided. -/
theorem exists_station (p : Station → Prop) : (∃ i, p i) ↔ ¬ ∀ i, ¬ p i := by simp

/-- Two queued jobs, of which the later one's class is the lower. -/
theorem witness_ArbiterStartsOldestOfLowestClass :
    let w := { job .writeUsage .writeBack with handle := 3, state := .queued }
    let late := { job .hostRead .host with handle := 4, state := .queued }
    let s := (held .active genuine).withBus { State.reset.bus with jobs := [late, w] }
    let r := { job .challenge .auth with state := .retry, timer := none }
    let t := onBus State.reset .free [r]
    (serving State.reset ∧ (onBus State.reset .own []).bus.condition ≠ .free) ∧ (∀ k ∈ (onBus State.reset .free []).bus.jobs, ¬ mayStart State.reset k) ∧
    (serving s ∧ s.bus.condition = .free ∧ queued s [late] w [] ∧ (∀ k ∈ s.bus.jobs, k.state ≠ .active) ∧ mayStart s w ∧
      (∀ k ∈ [late], mayStart s k → classNumber w.cls < classNumber k.cls) ∧ w.target = some 2 ∧
      (s.station 2).cartridge = some genuine ∧ genuine.account = some ⟨2000, 1000, 1000, ⟨false, false⟩⟩) ∧
    (serving t ∧ queued t [] r [] ∧ mayStart t r ∧ r.kind ≠ .writeUsage ∧ r.target ≠ none) := by
  simp only [serving, up, queued, mayStart, exists_station]; and_intros <;> decide +kernel

/-- A job that runs in its transaction, polls, waits and is cut. -/
theorem witness_TransactionsAndPollsMoveTheJob :
    let on (j : Job) := onBus ((held .active genuine).setContext 2 (some (context .challenge true))) .own [j]
    let w := { Job.firstWake with state := .active }
    let read := job .hostRead .host
    let ch := job .challenge .auth
    let cut := { read with cut := some .removal }
    let resp (polls : Nat) := { job .response .auth with polls }
    let polling := { job .response .auth with state := .polling, timer := some 5 }
    let retry := { read with state := .retry, timer := some 5 }
    (up (on w) ∧ running (on w) .own [] w [] ∧ w.kind = .wake ∧ w.target = none) ∧
    (up (on read) ∧ running (on read) .own [] read [] ∧ read.target = some 2 ∧ read.cls = .host ∧ read.followOn = none ∧
      (on read).operating = .operating ∧ (List.replicate 4 (0 : Byte)).length = read.length ∧ 1 < read.attempts) ∧
    (running (on { read with attempts := 1 }) .own [] { read with attempts := 1 } []) ∧
    (running (on ch) .own [] ch [] ∧ ch.target = some 2 ∧ ch.cls = .auth ∧ ch.disowned = false ∧
      (on ch).context 2 = some (context .challenge true) ∧ nextFree (on ch) 2) ∧
    (queued (on cut) [] cut [] ∧ cut.state = .active ∧ (on cut).bus.condition = .own ∧ cut.cut = some .removal ∧
      ((on cut).withOperating .halted).operating = .halted) ∧
    (running (on (resp 6)) .own [] (resp 6) [] ∧ (resp 6).polls + 1 < 8) ∧
    (running (on (resp 7)) .own [] (resp 7) [] ∧ (resp 7).polls = 7 ∧ 1 < (resp 7).attempts) ∧
    (queued (on polling) [] polling [] ∧ polling.state = .polling) ∧ (queued (on retry) [] retry [] ∧ retry.state = .retry) := by
  simp only [up, queued, running, nextFree]; and_intros <;> decide +kernel

/-- Last attempts of a CHALLENGE and of a RESPONSE in attempts 1 and 2 of the authentication, an abandoned job with a context that waits for it,
and cuts of a WAKE, of an AUTH and of a WRITE_USAGE job. -/
theorem witness_Transactions_end_unanswered_or_cut :
    let x (step : AuthStep) (attempt : Nat) : AuthContext := { context step false with attempt }
    let on (y : AuthContext) (j : Job) := onBus ((held .authenticating arriving).setContext 2 (some y)) .own [j]
    let last (kind : JobKind) : Job := { job kind .auth with attempts := 1, polls := 7 }
    let abandoned (kind : JobKind) : Job := { last kind with disowned := true }
    let due : AuthContext := { context .read false with firstJobDue := true }
    let ended (s : State) := s.withBus (released s.bus ([] ++ []))
    let ready (y : AuthContext) (j : Job) := up (on y j) ∧ running (on y j) .own [] j [] ∧ (on y j).context 2 = some y ∧
      j.target = some 2 ∧ j.cls = .auth ∧ j.followOn = none ∧ j.attempts = 1 ∧ nextFree (ended (on y j)) 2
    let cut (j : Job) (s : State) := queued s [] j [] ∧ j.state = .active ∧ s.bus.condition = .own ∧ j.cut = some .removal
    let wake := { Job.firstWake with state := .active, cut := some .removal }
    let usage := { job .writeUsage .writeBack with cut := some .removal, followOn := some .depart }
    let auth := { abandoned .challenge with cut := some .removal }
    ready (x .challenge 1) (last .challenge) ∧ ready (x .challenge 2) (last .challenge) ∧ ready (x .response 1) (last .response) ∧
    ready (x .response 2) (last .response) ∧ ((on (x .response 2) (last .response)).station 2).cartridge = some arriving ∧
    ready due (abandoned .readId) ∧ ready due (abandoned .challenge) ∧ ready due (abandoned .response) ∧ due.firstJobDue = true ∧
    cut wake (on due wake) ∧ cut usage (on due usage) ∧ cut auth (on due auth) ∧ auth.cls = .auth ∧
    nextFree (ended (on due auth)) 2 := by
  simp only [up, queued, running, nextFree]; and_intros <;> decide +kernel

/-- Last attempts of the two kinds of write, a final write-back with a follow-on, and a withdrawn job. -/
theorem witness_WriteJobs_end :
    let on (l : Lifecycle) (j : Job) := onBus (held l genuine) .own [j]
    let usage : Job := { job .writeUsage .writeBack with phase := .status, attempts := 1, polls := 7, payload := some [],
                                                         written := some (2000, ⟨false, false⟩) }
    let last := { usage with cls := .depart, followOn := some .depart }
    let withdrawn := { usage with disowned := true }
    let host := { job .hostWrite .host with phase := .status, attempts := 1, polls := 7, payload := some [9] }
    let ready (l : Lifecycle) (j : Job) := up (on l j) ∧ running (on l j) .own [] j [] ∧ j.target = some 2 ∧ j.attempts = 1 ∧
      j.polls = 7 ∧ j.phase = .status ∧ (on l j).operating = .operating
    ready .active usage ∧ (ready .departing last ∧ ((on .departing last).station 2).lifecycle = .departing) ∧ ready .active withdrawn ∧
    ready .active host ∧ (ready .active { usage with phase := .status } ∧
      running (on .active { usage with phase := .transaction }) .own [] { usage with phase := .transaction } []) := by
  simp only [up, queued, running]; and_intros <;> decide +kernel

theorem witness_WriteJobsRunTwoPhases :
    let w (phase : Phase) (polls : Nat) : Job :=
      { job .writeUsage .writeBack with phase, polls, payload := some [], written := some (2000, ⟨false, false⟩) }
    let d := { w .status 0 with cls := .depart }
    let h := { job .hostWrite .host with phase := .status, payload := some [9] }
    let on (l : Lifecycle) (c : BusCondition) (j : Job) := onBus (held l genuine) c [j]
    let ready (c : BusCondition) (j : Job) := up (on .active c j) ∧ running (on .active c j) c [] j []
    ready .own (w .transaction 0) ∧ ready .free (w .statusWait 0) ∧ ready .foreign (w .statusWait 0) ∧ ready .own (w .status 6) ∧
    ready .free (w .between 7) ∧ ready .own h ∧
    (1 < (w .status 6).attempts ∧ (w .status 6).target = some 2 ∧ (w .status 6).disowned = false ∧ (w .status 6).followOn = none ∧
      ((on .active .own (w .status 6)).station 2).cartridge = some genuine) ∧
    accountOf { genuine with account := some ⟨2000, 2000, 1000, ⟨false, false⟩⟩ } = some { kept with lastWritten := 2000 } ∧
    accountOf tagless = none ∧
    (up (on .departing .own d) ∧ running (on .departing .own d) .own [] d [] ∧ ((on .departing .own d).station 2).lifecycle = .departing) ∧
    2 ≤ (2 : Byte).toNat ∧ 2 ≤ (255 : Byte).toNat := by
  simp only [up, queued, running]; and_intros <;> decide +kernel

/-- A bus condition for every clause, with an ACTIVE job and without one. -/
theorem witness_BusConditionFollowsTheBus :
    let j := job .challenge .auth
    let w := { job .writeUsage .writeBack with phase := .between }
    let ready (c : BusCondition) (j : Job) := running (onBus State.reset c [j]) c [] j []
    let idle (c : BusCondition) := (onBus State.reset c [Job.firstWake]).bus.condition = c ∧
      ∀ k ∈ (onBus State.reset c [Job.firstWake]).bus.jobs, k.state ≠ .active
    let timed (s : State) := s.withBus { s.bus with foreignTimer := true, faultTimer := true }
    serving (timed (onBus State.reset .own [j])) ∧ ready .own j ∧ 1 < j.attempts ∧ ready .free w ∧ ready .foreign w ∧ w.target = some 2 ∧
    (ready .foreign { w with phase := .statusWait, timer := some 5 } ∧
      ∀ k ∈ (onBus State.reset .foreign [{ w with phase := .statusWait, timer := some 5 }]).bus.jobs, k.state = .active → k.phase ≠ .between) ∧
    idle .free ∧ idle .own ∧ idle .foreign ∧ idle .recovery ∧ idle .fault ∧
    ((timed (onBus State.reset .foreign [])).bus.condition = .foreign ∧ (timed (onBus State.reset .foreign [])).bus.foreignTimer = true) ∧
    ((timed (onBus State.reset .fault [])).bus.condition = .fault ∧ (timed (onBus State.reset .fault [])).bus.faultTimer = true) ∧
    (∃ k ∈ (onBus State.reset .recovery [Job.firstWake]).bus.jobs, k.kind = .wake) ∧
    ((∀ k ∈ (onBus State.reset .recovery [j]).bus.jobs, k.kind ≠ .wake) ∧ nextFree (onBus State.reset .recovery [j]) 2) ∧
    (onBus State.reset .recovery []).bus.failedRecoveries + 1 ≤ 4294967295 ∧
    (let s := (onBus State.reset .recovery []).withOperating .halted
     up s ∧ s.operating = .halted ∧ s.bus.condition = .recovery ∧ nextFree s 2) := by
  simp only [serving, up, queued, running, nextFree]; and_intros <;> decide +kernel

/-- A stuck bus at the last attempt of a job of each kind. -/
theorem witness_BusCondition_last_attempts :
    let on (l : Lifecycle) (step : AuthStep) (j : Job) := onBus ((held l genuine).setContext 2 (some (context step false))) .own [j]
    let last (kind : JobKind) (cls : JobClass) : Job := { job kind cls with attempts := 1 }
    let gone (s : State) := s.withBus { s.bus with jobs := [] ++ [] }
    let ready (l : Lifecycle) (step : AuthStep) (j : Job) := serving (on l step j) ∧ running (on l step j) .own [] j [] ∧ j.attempts = 1 ∧
      (on l step j).context 2 = some (context step false) ∧ ((on l step j).station 2).cartridge = some genuine ∧
      nextFree (gone (on l step j)) 2
    let wake := { Job.firstWake with state := .active, attempts := 1 }
    ready .identifying .read (last .readId .auth) ∧ ready .authenticating .challenge (last .challenge .auth) ∧
    ready .authenticating .response (last .response .auth) ∧ ready .active .verify (last .writeUsage .writeBack) ∧
    (ready .departing .read (last .writeUsage .depart) ∧
      ((on .departing .read (last .writeUsage .depart)).station 2).lifecycle = .departing) ∧
    ready .active .verify (last .hostRead .host) ∧ ready .active .verify wake := by
  simp only [serving, up, queued, running, nextFree]; and_intros <;> decide +kernel

/-! ### Identification and authentication -/

/-- The 36 bytes of a tag's identity and usage records: serial 0x11, ink type 3, capacity as given, a key index, fill generation 1, used
1000, flags 0. -/
def tagBytes (capacity keyIndex : Nat) : List Byte :=
  let id := (put 8 0x11).reverse ++ (put 2 3).reverse ++ (put 4 capacity).reverse ++ put 1 keyIndex ++ [1] ++ List.replicate 7 0
  let us := (put 4 1000).reverse ++ List.replicate 7 0
  let check (bytes : List Byte) : List Byte := put 1 (256 - (bytes.map (·.toNat)).sum % 256)
  id ++ check id ++ us ++ check us

/-- Capacities at and below the smallest, key indexes 3, 4, 15 and 16, an ink type that differs, and a serial held elsewhere. -/
theorem witness_IdentificationChecksTheTag :
    let j := job .readId .auth
    let fresh := CartridgeRecord.fresh
    let s := onBus ((held .identifying fresh).setContext 2 (some (context .read false))) .own [j]
    let sound (bytes : List Byte) := bytes.length = 36 ∧ ((bytes.take 24).map (·.toNat)).sum % 256 = 0 ∧
      ((bytes.drop 24).map (·.toNat)).sum % 256 = 0 ∧ be bytes 0 8 = 0x11 ∧ be bytes 8 2 = 3 ∧ be bytes 24 4 = 1000
    serving s ∧ running s .own [] j [] ∧ j.kind = .readId ∧ j.target = some 2 ∧ j.cls = .auth ∧ j.followOn = none ∧ j.disowned = false ∧
    s.context 2 = some (context .read false) ∧ (context .read false).firstJobDue = false ∧ (s.station 2).cartridge = some fresh ∧
    (sound (tagBytes 1000000 3) ∧ be (tagBytes 1000000 3) 10 4 = 1000000 ∧ be (tagBytes 1000000 3) 14 1 = 3) ∧
    (sound (tagBytes 2000000000 4) ∧ be (tagBytes 2000000000 4) 10 4 = 2000000000 ∧ be (tagBytes 2000000000 4) 14 1 = 4) ∧
    (sound (tagBytes 1000000 15) ∧ be (tagBytes 1000000 15) 14 1 = 15) ∧ be (tagBytes 1000000 16) 14 1 = 16 ∧
    be (tagBytes 999999 3) 10 4 = 999999 ∧ (s.store.keySlots[(3 : KeySlot)]).state = .live ∧
    ((slotIs s 3 .empty).store.keySlots[(3 : KeySlot)]).state = .empty ∧
    ((slotIs s 3 .revoked).store.keySlots[(3 : KeySlot)]).state = .revoked ∧ (s.station 2).config.expectedInk = 0 ∧
    ((s.setStation 2 { s.station 2 with config := { StationConfig.initial with expectedInk := 4 } }).station 2).config.expectedInk = 4 ∧
    (∀ e ∈ s.departed.entries, e.serial ≠ 0x11) ∧ nextFree s 2 ∧ 1000 < 1000000 ∧
    running (onBus s .own [{ j with attempts := 1 }]) .own [] { j with attempts := 1 } [] := by
  simp only [serving, up, queued, running, nextFree]; and_intros <;> decide +kernel

/-- A first authentication of a tag with both flags and a departed entry whose last_written is above the tag's figure, and rechecks of a tag at,
below and above the record's last_written, where the evidence leaves the context and, under policy QUARANTINE, takes it. -/
theorem witness_Identification_reconciles_and_rechecks :
    let j := job .readId .auth
    let e : DepartedEntry := { gone 0 with serial := 0x11, used := 2000, lastWritten := 1001 }
    let first := (onBus ((held .identifying CartridgeRecord.fresh).setContext 2 (some (context .read false))) .own [j]).withDeparted ⟨[e], 1⟩
    let x : AuthContext := context .read true
    let c (lastWritten : Nat) := { genuine with
      identity := some ⟨0x11, 3, 2, 1, 1000, ⟨false, false⟩⟩, account := some ⟨2000, lastWritten, 1000, ⟨false, false⟩⟩ }
    let again (lastWritten : Nat) := onBus ((held .active (c lastWritten)).setContext 2 (some x)) .own [j]
    let divert (s : State) := s.withPart { s.part with policy := .quarantine }
    let y (s : State) (k : EvidenceKind) := (s.withBus (released s.bus [])).recordEvidence 2 k
    (serving first ∧ running first .own [] j [] ∧ CartridgeRecord.fresh.trust = .pending ∧ CartridgeRecord.fresh.authenticated = false ∧
      e ∈ first.departed.entries ∧ e.serial = 0x11 ∧ (∀ d ∈ first.departed.entries, d.serial = 0x11 → d = e) ∧ nextFree first 2) ∧
    be (tagBytes 1000000 3) 0 8 = 0x11 ∧ be (tagBytes 1000000 3) 24 4 = 1000 ∧ 1000 < e.lastWritten ∧
    (serving (again 1000) ∧ running (again 1000) .own [] j [] ∧ x.recheck = true ∧ x.step = .read ∧
      ((again 1000).station 2).cartridge = some (c 1000) ∧ nextFree (again 1000) 2) ∧
    (serving (again 1001) ∧ ((y (again 1001) .rollback).context 2).isSome = true ∧ nextFree (y (again 1001) .rollback) 3) ∧
    (serving (divert (again 999)) ∧ running (divert (again 999)) .own [] j [] ∧ (y (divert (again 999)) .conflict).context 2 = none) := by
  simp only [serving, up, queued, running, nextFree]; and_intros <;> decide +kernel

/-- A VERIFY request of station 2. -/
def request (keyIndex : Nat) (response : Digest) : VerifyRequest := ⟨2, keyIndex, 5, 77, 1000, 1, response⟩

theorem witness_ResponsesAreSentToTheDigestUnit :
    let j := job .response .auth
    let s := onBus ((held .authenticating arriving).setContext 2 (some (context .response false))) .own [j]
    let v := State.reset.withAuth { State.reset.auth with fifo := [request 3 9] }
    let b := State.reset.withAuth { State.reset.auth with computing := some ⟨request 3 9, 0, false⟩ }
    (serving s ∧ running s .own [] j [] ∧ j.kind = .response ∧ 1 < j.attempts ∧ j.target = some 2 ∧
      s.context 2 = some (context .response false) ∧ (context .response false).challenge = some 77 ∧
      (context .response false).digestUsed = some 1000 ∧ (s.station 2).cartridge = some arriving ∧ ∃ id, arriving.identity = some id) ∧
    State.reset.auth.fifo = [] ∧ b.auth.computing ≠ none ∧
    (serving v ∧ v.auth.computing = none ∧ v.auth.fifo = request 3 9 :: [] ∧ (request 3 9).keyIndex = (3 : KeySlot).val ∧
      (v.store.keySlots[(3 : KeySlot)]).state = .live) :=
  ⟨⟨⟨⟨rfl, rfl⟩, rfl⟩, by simp only [running, queued]; decide +kernel, rfl, by decide, rfl, rfl, rfl, rfl, rfl, _, rfl⟩, rfl, by decide,
    ⟨⟨rfl, rfl⟩, rfl⟩, rfl, rfl, rfl, rfl⟩

/-- A last RESPONSE read, and one of an abandoned job. -/
theorem witness_Responses_last_or_abandoned :
    let j := { job .response .auth with attempts := 1 }
    let x (attempt : Nat) : AuthContext := { context .response false with attempt }
    let on (y : AuthContext) (j : Job) := onBus ((held .authenticating arriving).setContext 2 (some y)) .own [j]
    let abandoned := { j with disowned := true }
    let due : AuthContext := { context .read false with firstJobDue := true }
    let ready (y : AuthContext) (j : Job) := serving (on y j) ∧ running (on y j) .own [] j [] ∧ (on y j).context 2 = some y ∧
      ((on y j).station 2).cartridge = some arriving ∧ nextFree ((on y j).withBus (released (on y j).bus ([] ++ []))) 2
    ready (x 1) j ∧ ready (x 2) j ∧ ready due abandoned ∧ j.attempts = 1 := by
  simp only [serving, up, queued, running, nextFree]; and_intros <;> decide +kernel

theorem witness_CompletionsDecideTheOutcome :
    let at_ (x : AuthContext) (l : Lifecycle) (c : CartridgeRecord) (response : Digest) (withdrawn : Bool) :=
      ((held l c).setContext 2 (some x)).withAuth
        { ((held l c).setContext 2 (some x)).auth with computing := some ⟨request 2 response, 6, withdrawn⟩ }
    let first := context .verify false
    let again := context .verify true
    let s := at_ first .authenticating arriving 6 false
    (serving State.reset ∧ State.reset.auth.computing = none) ∧ (at_ first .authenticating arriving 6 true).auth.computing ≠ none ∧
    (serving s ∧ s.auth.computing = some ⟨request 2 6, 6, false⟩ ∧ s.context 2 = some first ∧ (s.station 2).cartridge = some arriving ∧
      (s.store.keySlots[(2 : KeySlot)]).state ≠ .revoked ∧ (6 : Digest) = (request 2 6).response ∧ first.recheck = false ∧
      arriving.identity = some ⟨5, 3, 2, 1, 1000, ⟨false, false⟩⟩ ∧ arriving.capacity = some 200000000 ∧
      arriving.account = some ⟨2000, 1000, 1000, ⟨false, false⟩⟩ ∧
      arriving.evidence = ⟨false, false, false, false, false, false⟩ ∧ arriving.origin = some .new) ∧
    ((slotIs s 2 .revoked).store.keySlots[(2 : KeySlot)]).state = .revoked ∧
    (let t := at_ again .active genuine 6 false
     serving t ∧ t.context 2 = some again ∧ again.recheck = true ∧ (t.station 2).cartridge = some genuine) ∧
    (let t := (at_ first .authenticating { arriving with evidence := ⟨true, false, false, false, false, false⟩ } 6 false).withPart
      { PartConfig.initial with policy := .quarantine }
     serving t ∧ t.part.policy = .quarantine ∧ t.context 2 = some first) ∧
    (let t := at_ first .authenticating arriving 7 false
     (6 : Digest) ≠ (request 2 7).response ∧ first.attempt = 1 ∧ nextFree t 2) ∧
    (at_ { first with attempt := 2 } .authenticating arriving 7 false).context 2 = some { first with attempt := 2 } := by
  simp only [serving, up, nextFree]; and_intros <;> decide +kernel

/-! ### The tally receiver and the metering unit -/

/-- The state with a stream of bits under an aligner state. -/
def tallying (aligner : Aligner) (stream : List Bool) : State :=
  State.reset.withTally { State.reset.tally with aligner, stream }

/-- A frame's bits: its header and 43 bytes of zeros. -/
def frame (k : Fin 8) : List Bool := header k ++ List.replicate 344 false

/-- A frame begins with a 1. -/
theorem no_frame_at_zero {bits : List Bool} (n : Fin 8) (h : bits.head? = some false) : ¬ startsFrame bits n := by
  rintro ⟨rest, rfl⟩
  simp [bitsOf, List.range_succ] at h

/-- Streams one bit short of a test and as long as it, with the index that fits and without it. -/
theorem witness_AlignmentNeedsThreeFrames :
    serving State.reset ∧ State.reset.tally.source = .link ∧ State.reset.tally.aligner = .hunt ∧
    (State.reset.withTally { State.reset.tally with source := .host }).tally.source = .host ∧
    startsFrame (tallying .hunt (header 6)).tally.stream 6 ∧ (∀ n, ¬ startsFrame State.reset.tally.stream n) ∧
    (tallying (.candidate 6) (frame 6 ++ List.replicate 23 false)).tally.stream.length < 392 ∧
    startsFrame ((tallying (.candidate 6) (frame 6 ++ header 7)).tally.stream.drop 368) (6 + 1) ∧
    (392 ≤ (tallying (.candidate 6) (frame 6 ++ List.replicate 24 false)).tally.stream.length ∧
      ¬ startsFrame ((tallying (.candidate 6) (frame 6 ++ List.replicate 24 false)).tally.stream.drop 368) (6 + 1)) ∧
    (tallying (.confirm 6) (frame 6 ++ frame 7 ++ List.replicate 23 false)).tally.stream.length < 760 ∧
    startsFrame ((tallying (.confirm 6) (frame 6 ++ frame 7 ++ header 0)).tally.stream.drop 736) (6 + 2) ∧
    (760 ≤ (tallying (.confirm 6) (frame 6 ++ frame 7 ++ List.replicate 24 false)).tally.stream.length ∧
      ¬ startsFrame ((tallying (.confirm 6) (frame 6 ++ frame 7 ++ List.replicate 24 false)).tally.stream.drop 736) (6 + 2)) := by
  refine ⟨⟨⟨rfl, rfl⟩, rfl⟩, rfl, rfl, rfl, ⟨[], by decide +kernel⟩, ?_, by decide +kernel, ⟨[], by decide +kernel⟩,
    ⟨by decide +kernel, no_frame_at_zero _ (by decide +kernel)⟩, by decide +kernel, ⟨[], by decide +kernel⟩,
    ⟨by decide +kernel, no_frame_at_zero _ (by decide +kernel)⟩⟩
  rintro n ⟨rest, h⟩
  simp [State.reset, Tally.initial, bitsOf, List.range_succ] at h

/-- 24 bits that fit and that do not, at a run that reaches the threshold and one that does not. -/
theorem witness_FramePositionsAreJudged :
    let s (bits : List Bool) (badRun : Nat) := State.reset.withTally { State.reset.tally with
      aligner := .sync 0 none, stream := bits, badRun }
    serving (s (header 0) 0) ∧ (s (header 0) 0).tally.aligner = .sync 0 none ∧ 24 ≤ (s (header 0) 0).tally.stream.length ∧
    (∀ b, (s (header 0) 0).tally.buffer = some b → b.positions ≠ 8) ∧ startsFrame (s (header 0) 0).tally.stream 0 ∧
    ¬ startsFrame (s (List.replicate 24 false) 1).tally.stream 0 ∧ 24 ≤ (s (List.replicate 24 false) 1).tally.stream.length ∧
    (s (List.replicate 24 false) 1).tally.badRun + 1 < (s (List.replicate 24 false) 1).tally.config.lossThreshold ∧
    (s (List.replicate 24 false) 2).tally.config.lossThreshold ≤ (s (List.replicate 24 false) 2).tally.badRun + 1 := by
  refine ⟨⟨⟨rfl, rfl⟩, rfl⟩, rfl, by decide +kernel, by rintro b ⟨⟩, ⟨[], by decide +kernel⟩,
    no_frame_at_zero _ (by decide +kernel), by decide +kernel, by decide +kernel, by decide +kernel⟩

theorem witness_CompletePositionsAreTaken :
    serving (inSync 1 (some true) (frame 0) (some emptyBuffer)) ∧
    (inSync 1 (some true) (frame 0) (some emptyBuffer)).tally.aligner = .sync 1 (some true) ∧
    368 ≤ (inSync 1 (some true) (frame 0) (some emptyBuffer)).tally.stream.length ∧
    (inSync 1 (some true) (frame 0) (some emptyBuffer)).tally.buffer = some emptyBuffer ∧
    (inSync 1 (some false) (frame 0) none).tally.aligner = .sync 1 (some false) ∧
    (inSync 1 (some false) (frame 0) none).tally.buffer = none ∧
    (inSync 1 (some true) (frame 0).tail none).tally.stream.length < 368 :=
  ⟨⟨⟨rfl, rfl⟩, rfl⟩, rfl, by decide +kernel, rfl, rfl, rfl, by decide +kernel⟩

/-- Check runs of 2 and 3 before the failed check, buffers of 7 and of 8 positions, and estimate runs of 31 and 32. -/
theorem witness_CyclesAreCommittedOrEstimated :
    let b (positions : Nat) (crc : BitVec 16) (failed : Bool) : CycleBuffer :=
      { emptyBuffer with positions, crc, failed, temps := Vector.replicate 8 (some .sensorFault) }
    let s (x : CycleBuffer) (checkRun estimateRun : Nat) := State.reset.withTally { State.reset.tally with
      aligner := .sync 0 none, buffer := some x, checkRun, estimateRun }
    (serving (s (b 7 0 false) 0 0) ∧ (s (b 7 0 false) 0 0).tally.source = .link ∧ (b 7 0 false).positions ≠ 8) ∧
    ((b 8 0 false).crc = (b 8 0 false).carried ∧ ∀ i : Station, (b 8 0 false).temps[i] = some (Vector.replicate 8 TempReading.sensorFault)[i]) ∧
    ((b 8 0 true).crc = (b 8 0 true).carried ∧ (b 8 0 true).failed = true) ∧
    ((b 8 1 false).crc ≠ (b 8 1 false).carried ∧ (s (b 8 1 false) 2 31).tally.checkRun + 1 < 4 ∧ 4 ≤ (s (b 8 1 false) 3 32).tally.checkRun + 1) ∧
    ((s (b 8 1 false) 2 31).tally.estimateRun < (s (b 8 1 false) 2 31).tally.config.holdLimit ∧
      (s (b 8 1 false) 3 32).tally.config.holdLimit ≤ (s (b 8 1 false) 3 32).tally.estimateRun) ∧
    State.reset.tally.buffer = none ∧ State.reset.tally.cycleTimer ≠ none ∧ State.reset.tally.aligner = .hunt ∧
    State.reset.tally.silenceTimer = true ∧
    (State.reset.withTally { State.reset.tally with cycleTimer := none, silenceTimer := false }).tally.cycleTimer = none := by
  simp only [serving, up]; and_intros <;> decide +kernel

theorem witness_CyclesBecomeWholeNanolitres :
    let c : CommittedCycle := ⟨Vector.replicate 8 ⟨8184, 8184, 8184, 8184⟩, some ((Vector.replicate 8 (.degrees 38)).set 7 .sensorFault)⟩
    let s := State.reset.withMeter ⟨[c], []⟩
    up State.reset ∧ State.reset.meter.cycles = [] ∧ up s ∧ s.meter.cycles = c :: [] ∧
    (∃ temps, c.temps = some temps ∧ temps[(0 : Station)] = .degrees 38 ∧ temps[(7 : Station)] = .sensorFault) ∧
    s.part.t1 < s.part.t2 ∧ s.part.t2 < s.part.t3 ∧ s.part.t3 < s.part.t4 ∧
    (State.reset.withMeter ⟨[⟨Vector.replicate 8 Drops.zero, none⟩], []⟩).meter.cycles = ⟨Vector.replicate 8 Drops.zero, none⟩ :: [] :=
  ⟨⟨rfl, rfl⟩, rfl, ⟨rfl, rfl⟩, rfl, ⟨_, rfl, rfl, rfl⟩, by decide, by decide, by decide, rfl⟩

/-- Drops under an invalid table at station 0, a volume above its ceiling at station 1, a band that moves at 2, and a sensor fault at 7. -/
theorem witness_Cycles_raise_their_events :
    let c : CommittedCycle := ⟨Vector.replicate 8 ⟨1, 2, 3, 4⟩, some ((Vector.replicate 8 (.degrees 38)).set 7 .sensorFault)⟩
    let r := State.reset.station 1
    let s := (State.reset.withMeter ⟨[c], []⟩).setStation 1 { r with
      config := { r.config with cycleCeiling := 1 }, volumes := ⟨true, ⟨48, 104, 196, 320⟩, #v[256, 256, 256, 256, 256]⟩ }
    let t := after (exec .cycleComputation s)
    up s ∧ s.meter.cycles = c :: [] ∧ (s.station 0).volumes.valid = false ∧ (t.station 2).meter.band ≠ (s.station 2).meter.band ∧
    t.events.entries.any (fun e => e.kind == .uncalibrated && e.place == some 0 && e.value == 10) = true ∧
    t.events.entries.any (fun e => e.kind == .meterClamped && e.place == some 1 && e.value == 2124) = true ∧
    t.events.entries.any (fun e => e.kind == .tempFault && e.place == some 7) = true := by
  simp only [up]; and_intros <;> decide +kernel

/-! ### The invariants -/

/-- A part that serves a queue with an entry, a full table, a cycle, a debt and a delivery, and a step from it. -/
def busy : State :=
  ((((State.reset.withEvents { EventQueue.initial with entries := twoEvents }).withDeparted (table 24 24)).withMeter
    ⟨[], [⟨7, 4⟩]⟩).setStation 7 { State.reset.station 7 with
      meter := { Metering.initial with converted := 14, charged := 3, debt := 7 } }).withPending [.wDelivery 7]

theorem witness_StepsKeepTheQueuesAndTables :
    (∃ t, goesTo (step busy) t) ∧ QueueInv busy.events ∧ DepartedInv busy.departed ∧ SequenceInv busy.departed ∧ PlacesInv busy := by
  refine ⟨⟨_, rfl⟩, ⟨by decide, ?_, by decide⟩, ⟨by decide +kernel, by decide +kernel⟩, ⟨by decide +kernel, by decide +kernel, by decide +kernel⟩,
    ?_, ?_⟩
  · show pairsDistinct twoEvents
    simp [pairsDistinct, twoEvents]
  · show busy.link.slots.length ≤ 2
    decide
  · show busy.meter.cycles.length ≤ 2
    decide

theorem witness_StepsConserveTheVolume : (∃ t, goesTo (step busy) t) ∧ Conserved busy ∧ FractionInv busy ∧ DebtInv busy := by
  refine ⟨⟨_, rfl⟩, ?_, ?_, ?_⟩
  · simp only [Conserved, underWay]; decide +kernel
  · simp only [FractionInv]; decide +kernel
  · simp only [DebtInv]; decide +kernel

/-- Station 2 is ACTIVE, authenticated, rechecked, and its VERIFY request waits. -/
def rechecked : State :=
  let s := (held .active genuine).setContext 2 (some (context .verify true))
  (s.withAuth { s.auth with fifo := [request 2 6] }).withPending [.verifyComputationStart]

theorem rechecked_slots : ∀ n : KeySlot, (rechecked.store.keySlots[n]).state ≠ .revoked := by decide +kernel

theorem witness_StepsKeepTheTrustLaws : (∃ t, goesTo (step rechecked) t) ∧ TrustInv rechecked := by
  refine ⟨⟨_, rfl⟩, ?_, ⟨?_, ?_⟩, ?_⟩
  · intro i
    have h : i = 2 ∨ i ≠ 2 := Decidable.em _
    rcases h with rfl | h
    · refine ⟨by decide +kernel, ⟨fun ⟨c, h, h'⟩ => absurd (Option.some.inj h ▸ rfl : c.cause = none) h', by decide +kernel⟩, by decide +kernel, ?_,
        by decide +kernel, by decide +kernel⟩
      intro x h
      have h' : x = context .verify true := (Option.some.inj h).symm
      subst h'
      exact .inl ⟨rfl, rfl⟩
    · have hs : rechecked.station i = StationRec.initial := by revert i; decide +kernel
      have hc : rechecked.context i = none := by revert i; decide +kernel
      simp [hs, hc, StationRec.initial]
  · show List.Pairwise _ [request 2 6]
    simp
  · intro r h
    have h' : r = request 2 6 := List.mem_singleton.mp h
    subst h'
    exact ⟨⟨_, rfl, rfl⟩, _, _, rfl, rfl, rfl⟩
  · intro i k c id h1 h2 h3 h4
    exact rechecked_slots k

end Sys2Proof.Tests
end

section
/-! PROOFS. What serving a request and answering it do, in the words of the statements: an owner runs on the request that the engine has handed to
it, and its answer is the reply formed on its state. -/

namespace Sys2Proof.Laws

open Sys2Proof.Machine Sys2Proof.Safety

/-- The FLAGS byte (R179). -/
theorem flagsByte_eq_flagBits (attention overrun halted lost : Bool) :
    flagsByte attention overrun halted lost = flagBits attention overrun halted lost := by
  have hbits : flagsNumber [attention, overrun, halted, lost]
      = attention.toNat + 2 * overrun.toNat + 4 * halted.toNat + 8 * lost.toNat := by
    simp only [flagsNumber, Bool.toNat]
    omega
  rw [flagsByte, flagBits, hbits]

/-- A reply of any events-lost bit (R176 to R179). -/
theorem formReply_eq_repliedWith (s : State) (kind tag : Byte) (status : Status) (lost : Bool) (body : List Byte) :
    s.formReply kind tag status lost body = repliedWith lost s kind tag status body := by
  simp only [State.formReply, repliedWith, State.replyNow, flagsByte_eq_flagBits, State.attentionPending, State.isHalted]

/-- A reply's kind is its request's code with bit 7 set (R178). -/
theorem replyKind_code (r : Request) : replyKind r.code = BitVec.ofNat 8 (0x80 + requestCode r.kind) := by
  rw [Request.code]
  cases r.kind <;> decide

/-- The answer of an owner (R178). -/
theorem answer_eq_replied (s : State) (r : Request) (status : Status) (body : List Byte) :
    s.answer r status body = replied s (replyKind r.code) r.tag status body :=
  formReply_eq_repliedWith s _ _ _ _ _

/-- The owner runs on the request that the engine has handed to it (R177 step 6). -/
theorem serve_of_handed {s : State} {kind : RequestKind} {tag : Byte} {body : List Byte} (h : handed s kind tag body)
    (own : State → Request → State) : s.serve kind own = own s ⟨kind, tag, body⟩ := by
  obtain ⟨⟨hpower, hreset⟩, hengine⟩ := h
  simp [State.serve, State.running, hpower, hreset, hengine]

/-- A one-byte field, in the word of the statements. -/
theorem oneByte_eq_put (n : Nat) : oneByte n = put 1 n := leBytes_eq_put 1 n

end Sys2Proof.Laws
end

section
/-! PROOFS. GET_JOB (R59): what the look-ups in the result table and in the queue find, the owner's three answers, and the statement. -/

namespace Sys2Proof.Laws

open Sys2Proof.Machine Sys2Proof.Safety

theorem isHost_iff (j : Job) : j.isHost = true ↔ j.kind = .hostRead ∨ j.kind = .hostWrite := by
  simp [Job.isHost]

section
variable {s : State} {h : Nat}

/-- The entry of a handle that no entry before it holds is the one found. -/
theorem find_result {pre post : List HostResult} {e : HostResult} (hr : s.bus.results = pre ++ e :: post) (he : e.handle = h)
    (hpre : ∀ x ∈ pre, x.handle ≠ h) : s.bus.results.find? (fun x => x.handle == h) = some e :=
  List.find?_eq_some_iff_append.mpr ⟨by simpa using he, pre, post, hr, fun x hx => by simpa using hpre x hx⟩

theorem find_result_none (hr : ∀ e ∈ s.bus.results, e.handle ≠ h) : s.bus.results.find? (fun x => x.handle == h) = none :=
  List.find?_eq_none.mpr fun e he => by simpa using hr e he

/-- Freeing the one entry of a handle leaves the entries before and after it (R59). -/
theorem freeResult_eq {pre post : List HostResult} {e : HostResult} (hr : s.bus.results = pre ++ e :: post) (he : e.handle = h)
    (hother : ∀ x ∈ pre ++ post, x.handle ≠ h) : s.freeResult h = s.withBus { s.bus with results := pre ++ post } := by
  have hkept : (pre ++ post).filter (fun x => x.handle != h) = pre ++ post :=
    List.filter_eq_self.mpr fun x hx => by simpa using hother x hx
  have hfreed : (pre ++ e :: post).filter (fun x => x.handle != h) = pre ++ post := by
    rw [← hkept]
    simp [he]
  rw [State.freeResult, hr, hfreed]

theorem find_hostJob {pre post : List Job} {j : Job} (hq : queued s pre j post) (hj : j.handle = h)
    (hkind : j.kind = .hostRead ∨ j.kind = .hostWrite) :
    s.bus.jobs.find? (fun k => k.handle == h && k.isHost) = some j := by
  obtain ⟨hjobs, hother⟩ := hq
  refine List.find?_eq_some_iff_append.mpr ⟨?_, pre, post, hjobs, fun k hk => ?_⟩
  · simp [hj, isHost_iff, hkind]
  · simp [← hj, hother k (List.mem_append_left post hk)]

/-- A handle that only jobs of other kinds hold names no host job. -/
theorem find_hostJob_none (hjobs : ∀ j ∈ s.bus.jobs, j.handle = h → j.kind ≠ .hostRead ∧ j.kind ≠ .hostWrite) :
    s.bus.jobs.find? (fun k => k.handle == h && k.isHost) = none :=
  List.find?_eq_none.mpr fun j hj => by
    simpa only [Bool.and_eq_true, beq_iff_eq, isHost_iff, not_and, not_or] using hjobs j hj

end

section
variable {s : State} {tag b : Byte} {rest : List Byte}

/-- GET_JOB that is with its owner goes to the owner's answer. -/
theorem exec_getJob (hh : handed s .getJob tag (b :: rest)) :
    goesTo (exec .getJob s) (s.ownGetJob ⟨.getJob, tag, b :: rest⟩) :=
  congrArg Host.Outcome.next (serve_of_handed hh State.ownGetJob)

theorem answer_getJob (s : State) (tag : Byte) (body : List Byte) (status : Status) (reply : List Byte) :
    s.answer ⟨.getJob, tag, body⟩ status reply = replied s 0x89 tag status reply := by
  rw [answer_eq_replied, replyKind_code]
  rfl

/-- The handle names an entry of the result table. -/
theorem ownGetJob_of_result {e : HostResult} (he : s.bus.results.find? (fun x => x.handle == b.toNat) = some e) :
    s.ownGetJob ⟨.getJob, tag, b :: rest⟩ = replied (s.freeResult b.toNat) 0x89 tag .ok (hostResultBody e) := by
  simp only [State.ownGetJob, byteAt, List.getD_cons_zero, he, answer_getJob]

/-- The handle names a host job in the queue. -/
theorem ownGetJob_of_queued {j : Job} (hr : s.bus.results.find? (fun x => x.handle == b.toNat) = none)
    (hj : s.bus.jobs.find? (fun k => k.handle == b.toNat && k.isHost) = some j) :
    s.ownGetJob ⟨.getJob, tag, b :: rest⟩ = replied s 0x89 tag .queued (queuedJobBody j) := by
  simp only [State.ownGetJob, byteAt, List.getD_cons_zero, hr, hj, answer_getJob]

/-- The handle names neither. -/
theorem ownGetJob_of_none (hr : s.bus.results.find? (fun x => x.handle == b.toNat) = none)
    (hj : s.bus.jobs.find? (fun k => k.handle == b.toNat && k.isHost) = none) :
    s.ownGetJob ⟨.getJob, tag, b :: rest⟩ = replied s 0x89 tag .notFound [] := by
  simp only [State.ownGetJob, byteAt, List.getD_cons_zero, hr, hj, answer_getJob]

end

/-- The handle's byte in a reply is the request's own. -/
theorem put_one_toNat (b : Byte) : put 1 b.toNat = [b] := by
  simp [← oneByte_eq_put, oneByte]

/-- Settles O36, by the three outcomes of the two look-ups that GET_JOB's owner makes. -/
theorem getJobAnswersByHandle : Obligations.GetJobAnswersByHandle := by
  intro s tag b rest hh
  have hexec := exec_getJob hh
  refine ⟨fun pre e post hr he hother => ?_, fun hr => ⟨fun pre j post hq hj hkind => ?_, fun hjobs => ?_⟩⟩
  · have hfind := find_result hr he fun x hx => hother x (List.mem_append_left post hx)
    rw [ownGetJob_of_result hfind, freeResult_eq hr he hother] at hexec
    simp only [hostResultBody, oneByte_eq_put, he, put_one_toNat] at hexec
    exact hexec
  · rw [ownGetJob_of_queued (find_result_none hr) (find_hostJob hq hj hkind)] at hexec
    simp only [queuedJobBody, oneByte_eq_put, hj, put_one_toNat, List.append_assoc] at hexec
    exact hexec
  · rwa [ownGetJob_of_none (find_result_none hr) (find_hostJob_none hjobs)] at hexec

end Sys2Proof.Laws
end

section
/-! PROOFS. GET_EVENTS (R169, R170): the entries that a fetch selects and those that stay, in the words of the statement, and the statement. -/

namespace Sys2Proof.Laws

open Sys2Proof.Machine Sys2Proof.Safety

/-- The entries of a severity, oldest first. -/
def ofSeverity (v : Severity) (entries : List EventEntry) : List EventEntry := entries.filter (fun e => e.kind.severity = v)

theorem rank_beq_severityRank (e : EventEntry) (v : Severity) : (e.rank == severityRank v) = decide (e.kind.severity = v) := by
  rw [EventEntry.rank]
  cases e.kind.severity <;> cases v <;> decide

theorem filter_rank_eq_ofSeverity (v : Severity) (entries : List EventEntry) :
    entries.filter (fun e => e.rank == severityRank v) = ofSeverity v entries := by
  simp only [rank_beq_severityRank, ofSeverity]

theorem countOfRank_eq_length (v : Severity) (entries : List EventEntry) :
    countOfRank (severityRank v) entries = (ofSeverity v entries).length := by
  rw [countOfRank, filter_rank_eq_ofSeverity]

/-- The first `n` of three lists in a row: of each list, as many as the lists before it leave wanted. -/
theorem take_append_append {α : Type} (n : Nat) (a b c : List α) :
    (a ++ b ++ c).take n = a.take n ++ b.take (n - a.length) ++ c.take (n - a.length - b.length) := by
  rw [List.take_append, List.take_append, List.length_append, Nat.sub_sub]

/-- A fetch selects by severity, and oldest first in each (R169). -/
theorem selectEvents_eq (n : Nat) (entries : List EventEntry) :
    selectEvents n entries = (ofSeverity .alert entries ++ ofSeverity .warning entries ++ ofSeverity .notice entries).take n := by
  have hfirst (v : Severity) : firstOfRank (severityRank v) n entries = (ofSeverity v entries).take n := by
    rw [firstOfRank, filter_rank_eq_ofSeverity]
  have hselect : selectEvents n entries = ((ofSeverity .alert entries).take n ++ (ofSeverity .warning entries).take n
      ++ (ofSeverity .notice entries).take n).take n := by
    rw [← hfirst .alert, ← hfirst .warning, ← hfirst .notice]
    rfl
  have hwarnings (a : Nat) : min (n - min n a) n = n - a := by omega
  have hnotices (a w : Nat) : min (n - min n a - min n w) n = n - a - w := by omega
  rw [hselect, take_append_append, take_append_append]
  simp only [List.take_take, List.length_take, min_self, hwarnings, hnotices]

section
variable {v w : Severity} {e : EventEntry} {entries : List EventEntry}

theorem ofSeverity_cons_same (he : e.kind.severity = v) : ofSeverity v (e :: entries) = e :: ofSeverity v entries :=
  List.filter_cons_of_pos (by simpa using he)

theorem ofSeverity_cons_other (he : e.kind.severity ≠ v) : ofSeverity v (e :: entries) = ofSeverity v entries :=
  List.filter_cons_of_neg (by simpa using he)

theorem dropOfRank_cons_same (he : e.kind.severity = v) (n : Nat) :
    dropOfRank (severityRank v) (n + 1) (e :: entries) = dropOfRank (severityRank v) n entries := by
  simp [dropOfRank, rank_beq_severityRank, he]

theorem dropOfRank_cons_other (he : e.kind.severity ≠ v) (n : Nat) :
    dropOfRank (severityRank v) (n + 1) (e :: entries) = e :: dropOfRank (severityRank v) (n + 1) entries := by
  simp [dropOfRank, rank_beq_severityRank, he]

/-- Of distinct entries, the ones that stay are those that are not among the first `n` of the severity. -/
theorem dropOfRank_eq_filter (n : Nat) (hd : entries.Nodup) :
    dropOfRank (severityRank v) n entries = entries.filter (fun e => e ∉ (ofSeverity v entries).take n) := by
  induction entries generalizing n with
  | nil => cases n <;> rfl
  | cons e rest ih =>
    obtain ⟨hnew, hrest⟩ := List.nodup_cons.mp hd
    cases n with
    | zero => simp [dropOfRank]
    | succ n =>
      by_cases he : e.kind.severity = v
      · rw [dropOfRank_cons_same he, ofSeverity_cons_same he, List.take_succ_cons, List.filter_cons_of_neg (by simp), ih n hrest]
        refine List.filter_congr fun x hx => ?_
        have hne : x ≠ e := fun h => hnew (h ▸ hx)
        simp [hne]
      · have hkept : e ∉ (ofSeverity v rest).take (n + 1) := fun h => hnew (List.mem_of_mem_filter (List.mem_of_mem_take h))
        rw [dropOfRank_cons_other he, ofSeverity_cons_other he, List.filter_cons_of_pos (by simpa using hkept), ih (n + 1) hrest]

/-- The same for a number that is held to what the queue has of the severity. -/
theorem dropOfRank_min_eq_filter (n : Nat) (hd : entries.Nodup) {held : List EventEntry} (hheld : ofSeverity v entries = held) :
    dropOfRank (severityRank v) (min n held.length) entries = entries.filter (fun e => e ∉ held.take n) := by
  rw [dropOfRank_eq_filter _ hd, hheld, ← List.take_eq_take_min]

/-- Giving up entries of another severity leaves a severity's entries as they are. -/
theorem ofSeverity_filter_notMem (hvw : v ≠ w) (n : Nat) (others : List EventEntry) :
    ofSeverity v (entries.filter (fun e => e ∉ (ofSeverity w others).take n)) = ofSeverity v entries := by
  rw [ofSeverity, List.filter_filter]
  refine List.filter_congr fun e _ => ?_
  have hother : e ∈ (ofSeverity w others).take n → e.kind.severity = w := fun h => by
    simpa using List.of_mem_filter (List.mem_of_mem_take h)
  by_cases he : e.kind.severity = v
  · have hout : e ∉ (ofSeverity w others).take n := fun h => hvw (he.symm.trans (hother h))
    simp [hout]
  · simp [he]

end

/-- The entries that stay: what is wanted of a severity is what the severities above it do not fill. -/
theorem remainingEvents_eq_dropOfRank (n : Nat) (entries : List EventEntry) :
    let alerts := (ofSeverity .alert entries).length
    let warnings := (ofSeverity .warning entries).length
    remainingEvents n entries = dropOfRank (severityRank .notice) (n - alerts - warnings)
      (dropOfRank (severityRank .warning) (min (n - alerts) warnings) (dropOfRank (severityRank .alert) (min n alerts) entries)) := by
  intro alerts warnings
  have halerts : n - min n alerts = n - alerts := by omega
  have hwarnings : n - alerts - min (n - alerts) warnings = n - alerts - warnings := by omega
  rw [← hwarnings, ← halerts]
  simp only [alerts, warnings, ← countOfRank_eq_length]
  rfl

/-- Of distinct entries, the ones that are not selected stay, in their order (R169). -/
theorem remainingEvents_eq_filter (n : Nat) {entries : List EventEntry} (hd : entries.Nodup) :
    remainingEvents n entries = entries.filter (fun e => e ∉ selectEvents n entries) := by
  have hstages : remainingEvents n entries =
      ((entries.filter (fun e => e ∉ (ofSeverity .alert entries).take n)).filter
        (fun e => e ∉ (ofSeverity .warning entries).take (n - (ofSeverity .alert entries).length))).filter
        (fun e => e ∉ (ofSeverity .notice entries).take
          (n - (ofSeverity .alert entries).length - (ofSeverity .warning entries).length)) := by
    rw [remainingEvents_eq_dropOfRank, dropOfRank_min_eq_filter n hd rfl,
      dropOfRank_min_eq_filter _ (hd.filter _) (ofSeverity_filter_notMem (by decide) ..),
      dropOfRank_eq_filter _ ((hd.filter _).filter _),
      ofSeverity_filter_notMem (by decide), ofSeverity_filter_notMem (by decide)]
  rw [hstages, List.filter_filter, List.filter_filter, selectEvents_eq, take_append_append]
  refine List.filter_congr fun e _ => ?_
  simp [Bool.and_comm]

/-- At most one entry per kind and station: no entry twice (R164). -/
theorem nodup_of_pairsDistinct {entries : List EventEntry} (h : pairsDistinct entries) : entries.Nodup :=
  h.imp fun hpair hsame => hpair ⟨congrArg EventEntry.kind hsame, congrArg EventEntry.place hsame⟩

/-- A clamped number, in the word of the statements. -/
theorem clampTo_eq_within {low high : Nat} (h : low ≤ high) (x : Nat) : clampTo low high x = within low high x := by
  rw [clampTo, within]
  split_ifs <;> omega

/-- GET_EVENTS' count (R169). -/
theorem fetchCount_eq_within (n : Nat) : fetchCount n = within 1 8 n := clampTo_eq_within (by decide) n

/-- The reply's body, in the words of the statement (section 12.6). -/
theorem eventsBody_eq_put (remaining : Nat) (selected : List EventEntry) :
    eventsBody remaining selected = put 1 remaining ++ put 1 selected.length ++ (selected.map (fun e =>
      put 1 (eventCode e.kind) ++ put 1 (placeCode e.place) ++ put 1 (severityCode e.kind.severity) ++ put 2 e.sequence.toNat
        ++ put 1 e.count ++ put 4 e.value)).flatten := by
  simp only [eventsBody, List.flatMap_def, oneByte_eq_put]
  congr 3
  funext e
  simp only [eventEntryBytes, oneByte_eq_put, leBytes_eq_put]

/-- GET_EVENTS that is with its owner goes to the owner's answer. -/
theorem exec_getEvents {s : State} {tag : Byte} {body : List Byte} (hh : handed s .getEvents tag body) :
    goesTo (exec .getEvents s) (s.ownGetEvents ⟨.getEvents, tag, body⟩) :=
  congrArg Host.Outcome.next (serve_of_handed hh State.ownGetEvents)

/-- The owner's answer: the reply on the state after the removal, the events-lost flag cleared after it (R169, R170). -/
theorem ownGetEvents_eq (s : State) (tag b : Byte) (rest : List Byte) :
    let n := within 1 8 b.toNat
    let left := remainingEvents n s.events.entries
    s.ownGetEvents ⟨.getEvents, tag, b :: rest⟩ =
      (repliedWith s.events.lost (s.withEvents { s.events with entries := left }) 0x94 tag .ok
        (eventsBody left.length (selectEvents n s.events.entries))).withEvents
          { s.events with entries := left, lost := false } := by
  simp only [State.ownGetEvents, byteAt, List.getD_cons_zero, fetchCount_eq_within, formReply_eq_repliedWith, replyKind_code]
  rfl

/-- Settles O25, by the selection and the rest of a queue whose entries are distinct. -/
theorem getEventsTakesMostUrgentFirst : Obligations.GetEventsTakesMostUrgentFirst := by
  intro s tag b rest hh hpairs
  have hexec := exec_getEvents hh
  rw [ownGetEvents_eq, remainingEvents_eq_filter _ (nodup_of_pairsDistinct hpairs), selectEvents_eq, eventsBody_eq_put] at hexec
  exact hexec

end Sys2Proof.Laws
end

section
/-! PROOFS. IDENTIFY and GET_STATUS (R181, R182): the bits of a field of flags, the two bodies in the words of the statement, and the statement. -/

namespace Sys2Proof.Laws

open Sys2Proof.Machine Sys2Proof.Safety

theorem flagsNumber_cons_eq_bit (b : Bool) (flags : List Bool) : flagsNumber (b :: flags) = Nat.bit b (flagsNumber flags) := by
  rw [flagsNumber, Nat.bit_val, Nat.add_comm]
  cases b <;> rfl

/-- Bit `k` of a field of flags is flag `k`; beyond the flags the bits are 0. -/
theorem testBit_flagsNumber (flags : List Bool) (k : Nat) : (flagsNumber flags).testBit k = flags.getD k false := by
  induction flags generalizing k with
  | nil => simp [flagsNumber]
  | cons b rest ih =>
    rw [flagsNumber_cons_eq_bit]
    cases k with
    | zero => exact Nat.testBit_bit_zero b _
    | succ k => exact (Nat.testBit_bit_succ k b _).trans (ih k)

/-- A field of flags has no more bits than flags. -/
theorem flagsNumber_lt_two_pow (flags : List Bool) : flagsNumber flags < 2 ^ flags.length :=
  Nat.lt_pow_two_of_testBit _ fun k hk => by rw [testBit_flagsNumber, List.getD_eq_default _ _ hk]

/-- The standing conditions as a field of 32 bits (section 12.4). -/
def conditionsField (s : State) : BitVec 32 := BitVec.ofNat 32 s.standingBits

theorem conditionsField_toNat (s : State) : (conditionsField s).toNat = s.standingBits := by
  have hbits : s.standingBits < 2 ^ 30 := (flagsNumber_lt_two_pow _).trans_eq (by simp)
  exact Nat.mod_eq_of_lt (by omega)

theorem getLsbD_conditionsField (s : State) (k : Nat) :
    (conditionsField s).getLsbD k = (s.standing.toList.map (·.isSome)).getD k false := by
  rw [← BitVec.testBit_toNat, conditionsField_toNat]
  exact testBit_flagsNumber _ k

/-- The bit of a condition's number says whether the condition stands. -/
theorem getLsbD_conditionsField_of_condition (s : State) (k : Fin 30) :
    (conditionsField s).getLsbD k = (s.standing[k]).isSome := by
  simp [getLsbD_conditionsField]

/-- The bits that no condition numbers are 0. -/
theorem getLsbD_conditionsField_of_le (s : State) {k : Nat} (hk : 30 ≤ k) : (conditionsField s).getLsbD k = false := by
  rw [getLsbD_conditionsField, List.getD_eq_default _ _ (by simpa using hk)]

/-- The jobs that count against the host's limit: those in the queue, and those whose results wait (R42). -/
theorem hostJobs_eq_length (b : Bus) :
    b.hostJobs = (b.jobs.filter (fun j => j.kind = .hostRead ∨ j.kind = .hostWrite)).length + b.results.length := by
  simp only [Bus.hostJobs, ← isHost_iff, Bool.decide_eq_true]

/-- IDENTIFY's body, in the words of the statement (section 12.4). -/
theorem identifyBody_eq_put (m : Retained) :
    identifyBody m = [0x30, 0x0A, 1] ++ put 4 m.partId.toNat
      ++ m.keySlots.toList.flatMap (fun k => put 1 (keyStateCode k.state)) := by
  have hpart : leBytes 2 2608 ++ oneByte 1 = [0x30, 0x0A, 1] := rfl
  rw [identifyBody, hpart, leBytes_eq_put, List.map_eq_flatMap]
  simp only [← oneByte_eq_put, oneByte]

/-- GET_STATUS's body, in the words of the statement (section 12.4). -/
theorem statusBody_eq_put (s : State) :
    statusBody s = put 1 (operatingCode s.operating) ++ put 1 (sourceCode s.tally.source) ++ put 1 (alignerCode s.tally.aligner)
      ++ put 1 (busConditionCode s.bus.condition) ++ put 4 (conditionsField s).toNat ++ put 1 s.bus.jobs.length
      ++ put 1 ((s.bus.jobs.filter (fun j => j.kind = .hostRead ∨ j.kind = .hostWrite)).length + s.bus.results.length)
      ++ put 1 s.events.entries.length := by
  simp only [statusBody, conditionsField_toNat, oneByte_eq_put, leBytes_eq_put, hostJobs_eq_length]

section
variable {s : State} {tag : Byte} {body : List Byte}

/-- IDENTIFY that is with its owner goes to its reply. -/
theorem exec_identify (hh : handed s .identify tag body) :
    goesTo (exec .identify s) (replied s 0x81 tag .ok (identifyBody s.store)) := by
  have hexec : goesTo (exec .identify s) (s.ownIdentify ⟨.identify, tag, body⟩) :=
    congrArg Host.Outcome.next (serve_of_handed hh State.ownIdentify)
  rwa [State.ownIdentify, answer_eq_replied, replyKind_code] at hexec

/-- GET_STATUS that is with its owner goes to its reply. -/
theorem exec_getStatus (hh : handed s .getStatus tag body) :
    goesTo (exec .getStatus s) (replied s 0x82 tag .ok (statusBody s)) := by
  have hexec : goesTo (exec .getStatus s) (s.ownGetStatus ⟨.getStatus, tag, body⟩) :=
    congrArg Host.Outcome.next (serve_of_handed hh State.ownGetStatus)
  rwa [State.ownGetStatus, answer_eq_replied, replyKind_code] at hexec

end

/-- Settles O18, by the two bodies and the bits of the conditions' field. -/
theorem identifyAndGetStatusReportThePart : Obligations.IdentifyAndGetStatusReportThePart := by
  intro s tag body
  refine ⟨fun hh => ?_, fun hh => ⟨conditionsField s, getLsbD_conditionsField_of_condition s,
    getLsbD_conditionsField_of_le s (by decide), getLsbD_conditionsField_of_le s (by decide), ?_⟩⟩
  · have hexec := exec_identify hh
    rw [identifyBody_eq_put] at hexec
    exact hexec
  · have hexec := exec_getStatus hh
    rw [statusBody_eq_put] at hexec
    exact hexec

end Sys2Proof.Laws
end

section
set_option Elab.async false
/-! PROOFS. What an operation on the state keeps, as a preorder on states: the waiting commands, the REVOKED slots, the laws of the event queue, of
the departed table and of the buffers, and at each station the laws of its volumes. An operation has it by its steps. -/

namespace Sys2Proof.Laws

open Sys2Proof.Machine Sys2Proof.Safety

/-! ## A station's record after a write -/

section
variable {s : State} {i k : Station}

@[simp] theorem modStation_station_same (f : StationRec → StationRec) : (s.modStation i f).station i = f (s.station i) := by
  simp [State.modStation]

theorem modStation_station_other (h : k ≠ i) (f : StationRec → StationRec) : (s.modStation i f).station k = s.station k :=
  State.setStation_station_other s i k _ h

theorem modStation_station (s : State) (i k : Station) (f : StationRec → StationRec) :
    (s.modStation i f).station k = if k = i then f (s.station k) else s.station k := by
  by_cases h : k = i
  · subst h; simp
  · simp [h, modStation_station_other h]

@[simp] theorem modCartridge_station_same (f : CartridgeRecord → CartridgeRecord) :
    (s.modCartridge i f).station i = { s.station i with cartridge := (s.station i).cartridge.map f } := by
  simp [State.modCartridge]

@[simp] theorem setContext_station (c : Option AuthContext) : (s.setContext i c).station k = s.station k := rfl

@[simp] theorem setStation_context (r : StationRec) : (s.setStation i r).context k = s.context k := rfl

@[simp] theorem modStation_context (f : StationRec → StationRec) : (s.modStation i f).context k = s.context k := rfl

@[simp] theorem modCartridge_context (f : CartridgeRecord → CartridgeRecord) : (s.modCartridge i f).context k = s.context k := rfl

/-- A station's record is read from the station records alone. -/
theorem station_congr {t : State} (h : t.stations = s.stations) : t.station i = s.station i := by
  rw [State.station, State.station, h]

/-- A station's context is read from the authentication engine alone. -/
theorem context_congr {t : State} (h : t.auth = s.auth) : t.context i = s.context i := by
  rw [State.context, State.context, h]

end

/-! ## Volumes at a station -/

/-- The conservation law at a station: its metering fields and the whole nanolitres on their way to it (R122). -/
def ConservedAt (m : Metering) (onTheWay : Nat) : Prop :=
  m.converted < 4294967295 → m.converted = m.charged + m.debt + m.dryOverflow + onTheWay

/-- The debt's bounds at a station (R131). -/
def DebtAt (r : StationRec) : Prop := r.meter.debt ≤ r.config.swapReserve ∧ (r.lifecycle = .active → r.meter.debt = 0)

/-- A change of a station's record, and of what is on its way to the station, that keeps the volumes' laws. -/
structure Flows (r : StationRec) (u : Nat) (r' : StationRec) (u' : Nat) : Prop where
  conserved : ConservedAt r.meter u → ConservedAt r'.meter u'
  fraction : r.meter.fraction < Config.vuPerNl → r'.meter.fraction < Config.vuPerNl
  debt : DebtAt r → DebtAt r'

theorem Flows.refl (r : StationRec) (u : Nat) : Flows r u r u := ⟨id, id, id⟩

theorem Flows.trans {r r' r'' : StationRec} {u u' u'' : Nat} (h : Flows r u r' u') (h' : Flows r' u' r'' u'') : Flows r u r'' u'' :=
  ⟨h'.conserved ∘ h.conserved, h'.fraction ∘ h.fraction, h'.debt ∘ h.debt⟩

/-- A record's change that leaves the volumes alone, and does not make the station ACTIVE. -/
theorem Flows.of_meter {r r' : StationRec} (hm : r'.meter = r.meter) (hc : r'.config = r.config)
    (hl : r'.lifecycle = .active → r.lifecycle = .active) (u : Nat) : Flows r u r' u := by
  refine ⟨fun h => by rwa [hm], fun h => by rwa [hm], fun ⟨hle, hz⟩ => ⟨by rwa [hm, hc], fun ha => ?_⟩⟩
  rw [hm]
  exact hz (hl ha)

theorem underWay_congr {s t : State} (h : t.meter = s.meter) (i : Station) : underWay t i = underWay s i := by
  rw [underWay, underWay, h]

/-! ## The preorder -/

/-- What an operation that leads from `s` to `t` keeps. -/
structure Sound (s t : State) : Prop where
  pending : t.pending = s.pending
  slots : keepsRevoked s.store t.store
  queue : QueueInv s.events → QueueInv t.events
  tables : TablesInv s → TablesInv t
  places : PlacesInv s → PlacesInv t
  volumes : ∀ i, Flows (s.station i) (underWay s i) (t.station i) (underWay t i)

theorem Sound.refl (s : State) : Sound s s := ⟨rfl, fun _ => id, id, id, id, fun _ => .refl _ _⟩

theorem Sound.trans {s t u : State} (h : Sound s t) (h' : Sound t u) : Sound s u where
  pending := h'.pending.trans h.pending
  slots k := h'.slots k ∘ h.slots k
  queue := h'.queue ∘ h.queue
  tables := h'.tables ∘ h.tables
  places := h'.places ∘ h.places
  volumes i := (h.volumes i).trans (h'.volumes i)

theorem Sound.ite {s a b : State} {p : Prop} [Decidable p] (ha : Sound s a) (hb : Sound s b) : Sound s (if p then a else b) := by
  split
  · exact ha
  · exact hb

theorem Sound.foldl {α : Type} {f : State → α → State} (hf : ∀ s x, Sound s (f s x)) (xs : List α) (s : State) :
    Sound s (xs.foldl f s) := by
  induction xs generalizing s with
  | nil => exact .refl s
  | cons x rest ih => exact (hf s x).trans (ih _)

theorem Sound.forStations {f : State → Station → State} (hf : ∀ s i, Sound s (f s i)) (s : State) : Sound s (s.forStations f) :=
  .foldl hf _ s

theorem Sound.whenRunning {s : State} {f : State → State} (hf : Sound s (f s)) : Sound s (s.whenRunning f) := .ite hf (.refl s)

theorem Sound.whenInService {s : State} {f : State → State} (hf : Sound s (f s)) : Sound s (s.whenInService f) := .ite hf (.refl s)

section
variable {s t : State}

/-- The tables' laws are about the held table, the store and the waiting writes. -/
theorem tablesInv_congr (hd : t.departed = s.departed) (hs : t.store = s.store) (hw : t.writes = s.writes) (h : TablesInv s) :
    TablesInv t := by
  rw [TablesInv, hd, hs, hw]
  exact h

theorem keepsRevoked_of_eq {m m' : Retained} (h : m' = m) : keepsRevoked m m' := h ▸ fun _ => id

theorem placesInv_congr (hl : t.link = s.link) (hm : t.meter = s.meter) (h : PlacesInv s) : PlacesInv t := by
  rw [PlacesInv, hl, hm]
  exact h

theorem flows_of_eq (hr : t.stations = s.stations) (hm : t.meter = s.meter) (i : Station) :
    Flows (s.station i) (underWay s i) (t.station i) (underWay t i) := by
  rw [station_congr hr, underWay_congr hm]
  exact .refl _ _

/-- An operation that leaves alone all that the laws speak of. -/
theorem Sound.untouched (hp : t.pending = s.pending := by simp) (hs : t.store = s.store := by simp)
    (he : t.events = s.events := by simp) (hd : t.departed = s.departed := by simp) (hw : t.writes = s.writes := by simp)
    (hl : t.link = s.link := by simp) (hm : t.meter = s.meter := by simp) (hr : t.stations = s.stations := by simp) : Sound s t :=
  ⟨hp, keepsRevoked_of_eq hs, fun h => he ▸ h, tablesInv_congr hd hs hw, placesInv_congr hl hm, flows_of_eq hr hm⟩

/-- An operation on the event queue. -/
theorem Sound.onEvents (he : QueueInv s.events → QueueInv t.events) (hp : t.pending = s.pending := by simp)
    (hs : t.store = s.store := by simp) (hd : t.departed = s.departed := by simp) (hw : t.writes = s.writes := by simp)
    (hl : t.link = s.link := by simp) (hm : t.meter = s.meter := by simp) (hr : t.stations = s.stations := by simp) : Sound s t :=
  ⟨hp, keepsRevoked_of_eq hs, he, tablesInv_congr hd hs hw, placesInv_congr hl hm, flows_of_eq hr hm⟩

/-- An operation on the departed table and the waiting writes. -/
theorem Sound.onTables (ht : TablesInv s → TablesInv t) (hp : t.pending = s.pending := by simp) (hs : t.store = s.store := by simp)
    (he : t.events = s.events := by simp) (hl : t.link = s.link := by simp) (hm : t.meter = s.meter := by simp)
    (hr : t.stations = s.stations := by simp) : Sound s t :=
  ⟨hp, keepsRevoked_of_eq hs, fun h => he ▸ h, ht, placesInv_congr hl hm, flows_of_eq hr hm⟩

/-- An operation on the request engine. -/
theorem Sound.onLink (hb : BufferInv s.link → BufferInv t.link) (hp : t.pending = s.pending := by simp)
    (hs : t.store = s.store := by simp) (he : t.events = s.events := by simp) (hd : t.departed = s.departed := by simp)
    (hw : t.writes = s.writes := by simp) (hm : t.meter = s.meter := by simp) (hr : t.stations = s.stations := by simp) : Sound s t :=
  ⟨hp, keepsRevoked_of_eq hs, fun h => he ▸ h, tablesInv_congr hd hs hw, fun ⟨hslots, hcycles⟩ => ⟨hb hslots, hm ▸ hcycles⟩,
    flows_of_eq hr hm⟩

/-- An operation on the station records and the deliveries. -/
theorem Sound.onVolumes (hv : ∀ i, Flows (s.station i) (underWay s i) (t.station i) (underWay t i))
    (hm : PendingInv s.meter → PendingInv t.meter) (hp : t.pending = s.pending := by simp) (hs : t.store = s.store := by simp)
    (he : t.events = s.events := by simp) (hd : t.departed = s.departed := by simp) (hw : t.writes = s.writes := by simp)
    (hl : t.link = s.link := by simp) : Sound s t :=
  ⟨hp, keepsRevoked_of_eq hs, fun h => he ▸ h, tablesInv_congr hd hs hw, fun ⟨hslots, hcycles⟩ => ⟨hl ▸ hslots, hm hcycles⟩, hv⟩

/-- A change of one station's record that keeps its volumes' laws. -/
theorem Sound.modStation {i : Station} {f : StationRec → StationRec} (hf : ∀ u, Flows (s.station i) u (f (s.station i)) u) :
    Sound s (s.modStation i f) := by
  refine .onVolumes (fun k => ?_) id
  rw [underWay_congr (show (s.modStation i f).meter = s.meter from rfl), modStation_station]
  by_cases hk : k = i
  · subst hk
    simpa using hf _
  · simpa [hk] using Flows.refl _ _

end

end Sys2Proof.Laws
end

section
set_option Elab.async false
/-! PROOFS. The event queue and the departed table keep their laws: a raise and a fetch, an insertion and a removal (R145 to R147, R164 to R166). -/

namespace Sys2Proof.Laws

open Sys2Proof.Machine Sys2Proof.Safety

/-! ## The event queue -/

section
variable {q : EventQueue} {k : EventKind} {p : Place} {v : Nat}

/-- The laws of the queue are about its entries alone. -/
theorem queueInv_congr {q' : EventQueue} (h : q'.entries = q.entries) (hq : QueueInv q) : QueueInv q' :=
  ⟨h ▸ hq.bounded, h ▸ hq.distinct, h ▸ hq.counted⟩

theorem isPair_iff (k : EventKind) (p : Place) (e : EventEntry) : e.isPair k p = true ↔ e.kind = k ∧ e.place = p := by
  simp [EventEntry.isPair]

/-- A merge changes no entry's kind and place, and holds the repeat count to 255. -/
theorem queueInv_merge (hq : QueueInv q) : QueueInv (q.merge k p v) where
  bounded := by simpa [EventQueue.merge] using hq.bounded
  distinct := by
    simp only [EventQueue.merge, pairsDistinct, List.pairwise_map]
    refine hq.distinct.imp fun {a b} hab => ?_
    split <;> split <;> exact hab
  counted := by
    intro e he
    obtain ⟨x, hx, rfl⟩ := List.mem_map.mp he
    have hcount := hq.counted x hx
    split
    · simp only [EventEntry.repeated, satAdd]
      split <;> omega
    · exact hcount

/-- A new entry of a pair that has none, in a queue with room. -/
theorem queueInv_append (hq : QueueInv q) (hroom : q.entries.length < Config.eventSlots)
    (hnew : ∀ e ∈ q.entries, ¬ (e.kind = k ∧ e.place = p)) : QueueInv (q.append k p v) where
  bounded := by simpa [EventQueue.append] using hroom
  distinct := by
    refine List.pairwise_append.mpr ⟨hq.distinct, List.pairwise_singleton _ _, fun a ha b hb => ?_⟩
    obtain rfl := List.mem_singleton.mp hb
    exact hnew a ha
  counted := by
    intro e he
    rcases List.mem_append.mp he with h | h
    · exact hq.counted e h
    · obtain rfl := List.mem_singleton.mp h
      exact ⟨Nat.le_refl 1, Nat.le_of_ble_eq_true rfl⟩

/-- The laws of a queue hold of its entries without some of them. -/
theorem queueInv_sublist {q' : EventQueue} (h : q'.entries.Sublist q.entries) (hq : QueueInv q) : QueueInv q' :=
  ⟨h.length_le.trans hq.bounded, hq.distinct.sublist h, fun e he => hq.counted e (h.subset he)⟩

/-- The lowest rank is that of some entry. -/
theorem exists_rank_eq_lowestRank {entries : List EventEntry} (h : entries ≠ []) : ∃ e ∈ entries, e.rank = lowestRank entries := by
  have hle (e : EventEntry) : e.rank ≤ 2 := by
    rw [EventEntry.rank]
    cases e.kind.severity <;> decide
  have hfold (es : List EventEntry) (m : Nat) : es.foldl (fun m e => min m e.rank) m = m ∨
      ∃ e ∈ es, e.rank = es.foldl (fun m e => min m e.rank) m := by
    induction es generalizing m with
    | nil => exact .inl rfl
    | cons x rest ih =>
      rcases ih (min m x.rank) with h | ⟨e, he, h⟩
      · rcases Nat.le_total m x.rank with hm | hm
        · exact .inl (by rw [List.foldl_cons, h]; omega)
        · exact .inr ⟨x, by simp, by rw [List.foldl_cons, h]; omega⟩
      · exact .inr ⟨e, List.mem_cons_of_mem _ he, h⟩
  obtain ⟨x, rest, rfl⟩ := List.exists_cons_of_ne_nil h
  have hx := hle x
  rcases hfold rest x.rank with h | ⟨e, he, h⟩
  · exact ⟨x, by simp, by rw [lowestRank, List.foldl_cons, Nat.min_eq_right hx, h]⟩
  · exact ⟨e, List.mem_cons_of_mem _ he, by rw [lowestRank, List.foldl_cons, Nat.min_eq_right hx, h]⟩

/-- An eviction makes room (R166). -/
theorem length_evict_lt (h : q.entries ≠ []) : q.evict.entries.length < q.entries.length := by
  obtain ⟨e, he, hrank⟩ := exists_rank_eq_lowestRank h
  have hlen : (q.entries.eraseP (fun e => e.rank == lowestRank q.entries)).length = q.entries.length - 1 :=
    List.length_eraseP_of_mem he (by simpa using hrank)
  have hpos := List.length_pos_iff.mpr h
  simp only [EventQueue.evict, hlen]
  omega

@[simp] theorem disarm_entries (arm : Option Condition) : (q.disarm arm).entries = q.entries := by
  cases arm <;> rfl

/-- A raise keeps the laws of the queue, whichever way it goes (R165, R166). -/
theorem queueInv_raise (arm : Option Condition) (hq : QueueInv q) : QueueInv (q.raise arm k p v) := by
  have hnew (h : ¬ q.entries.any (EventEntry.isPair k p) = true) : ∀ e ∈ q.entries, ¬ (e.kind = k ∧ e.place = p) := by
    simpa [isPair_iff] using h
  unfold EventQueue.raise
  split_ifs with hmask hdis hpair hroom hrank
  · exact hq
  · exact hq
  · exact queueInv_congr (disarm_entries arm) (queueInv_merge hq)
  · exact queueInv_congr (disarm_entries arm) (queueInv_append hq hroom (hnew hpair))
  · refine queueInv_congr (disarm_entries arm) (queueInv_append ?_ ?_ ?_)
    · exact queueInv_sublist (List.eraseP_sublist) hq
    · have hfull : q.entries ≠ [] := by
        intro hnil
        rw [hnil] at hroom
        exact hroom (by decide)
      exact (length_evict_lt hfull).trans_le hq.bounded
    · exact fun e he => hnew hpair e (List.eraseP_subset he)
  · exact ⟨hq.bounded, hq.distinct, hq.counted⟩

theorem dropOfRank_sublist (r n : Nat) (entries : List EventEntry) : (dropOfRank r n entries).Sublist entries := by
  induction entries generalizing n with
  | nil => cases n <;> exact .refl _
  | cons e rest ih =>
    cases n with
    | zero => exact .refl _
    | succ n =>
      rw [dropOfRank]
      split
      · exact (ih n).cons e
      · exact (ih (n + 1)).cons_cons e

/-- A fetch leaves a part of the entries. -/
theorem remainingEvents_sublist (n : Nat) (entries : List EventEntry) : (remainingEvents n entries).Sublist entries :=
  (dropOfRank_sublist _ _ _).trans ((dropOfRank_sublist _ _ _).trans (dropOfRank_sublist _ _ _))

end

/-! ## The departed table -/

/-- A table has its two laws. -/
def TableInv (t : DepartedTable) : Prop := DepartedInv t ∧ SequenceInv t

section
variable {t : DepartedTable}

/-- The laws hold of a table without some of its entries, the counter as it was. -/
theorem tableInv_sublist {t' : DepartedTable} (h : t'.entries.Sublist t.entries) (hn : t'.nextSequence = t.nextSequence) (ht : TableInv t) :
    TableInv t' :=
  ⟨⟨h.length_le.trans ht.1.bounded, ht.1.distinct.sublist h⟩,
    ⟨ht.2.rising.sublist h, fun e he => hn ▸ ht.2.below e (h.subset he), hn ▸ ht.2.fits⟩⟩

theorem tableInv_remove (serial : Serial) (ht : TableInv t) : TableInv (t.remove serial) :=
  tableInv_sublist List.filter_sublist rfl ht

theorem tableInv_empty {n : Nat} (hn : n ≤ 4294967295) : TableInv ⟨[], n⟩ :=
  ⟨⟨Nat.zero_le _, .nil⟩, ⟨.nil, by simp, hn⟩⟩

theorem length_renumberFrom (n : Nat) (entries : List DepartedEntry) : (renumberFrom n entries).length = entries.length := by
  induction entries generalizing n with
  | nil => rfl
  | cons e rest ih => simp [renumberFrom, ih]

theorem map_serial_renumberFrom (n : Nat) (entries : List DepartedEntry) :
    (renumberFrom n entries).map (·.serial) = entries.map (·.serial) := by
  induction entries generalizing n with
  | nil => rfl
  | cons e rest ih => simp [renumberFrom, ih]

/-- Renumbered sequences lie between the first number given and the number after the last. -/
theorem sequence_of_mem_renumberFrom {n : Nat} {entries : List DepartedEntry} {e : DepartedEntry} (he : e ∈ renumberFrom n entries) :
    n ≤ e.sequence ∧ e.sequence < n + entries.length := by
  induction entries generalizing n with
  | nil => cases he
  | cons x rest ih =>
    rw [renumberFrom, List.mem_cons] at he
    rcases he with rfl | he
    · simp
    · have := ih he
      simp only [List.length_cons]
      omega

theorem pairwise_renumberFrom (n : Nat) (entries : List DepartedEntry) :
    (renumberFrom n entries).Pairwise (fun a b => a.sequence < b.sequence) := by
  induction entries generalizing n with
  | nil => exact .nil
  | cons x rest ih => exact .cons (fun e he => (sequence_of_mem_renumberFrom he).1) (ih _)

/-- Entries are distinct exactly where their serials are. -/
theorem distinct_iff_map_serial (entries : List DepartedEntry) :
    entries.Pairwise (fun a b => a.serial ≠ b.serial) ↔ (entries.map (·.serial)).Nodup := by
  rw [List.Nodup, List.pairwise_map]

/-- An entry of a new serial appended where there is room (R146, R147 step 3). -/
theorem tableInv_append {e : DepartedEntry} (ht : TableInv t) (hroom : t.entries.length < Config.departedSlots)
    (hnew : ∀ x ∈ t.entries, x.serial ≠ e.serial) : TableInv (t.append e) := by
  obtain ⟨⟨hbounded, hdistinct⟩, ⟨hrising, hbelow, hfits⟩⟩ := ht
  have hlen : (t.entries ++ [{ e with sequence := t.nextSequence }]).length ≤ 24 := by
    simpa [Config.departedSlots] using hroom
  have hserials : (t.entries ++ [{ e with sequence := t.nextSequence }]).Pairwise (fun a b : DepartedEntry => a.serial ≠ b.serial) := by
    refine List.pairwise_append.mpr ⟨hdistinct, List.pairwise_singleton _ _, fun a ha b hb => ?_⟩
    obtain rfl := List.mem_singleton.mp hb
    exact hnew a ha
  unfold DepartedTable.append
  simp only
  split_ifs with hend
  · refine ⟨⟨(length_renumberFrom _ _).trans_le hlen, ?_⟩, ⟨pairwise_renumberFrom _ _, fun x hx => ?_, hlen.trans (by decide)⟩⟩
    · rw [distinct_iff_map_serial, map_serial_renumberFrom, ← distinct_iff_map_serial]
      exact hserials
    · simpa using (sequence_of_mem_renumberFrom hx).2
  · refine ⟨⟨hlen, hserials⟩, ⟨List.pairwise_append.mpr ⟨hrising, List.pairwise_singleton _ _, fun a ha b hb => ?_⟩, fun x hx => ?_, ?_⟩⟩
    · obtain rfl := List.mem_singleton.mp hb
      exact hbelow a ha
    · rcases List.mem_append.mp hx with h | h
      · exact Nat.lt_succ_of_lt (hbelow x h)
      · obtain rfl := List.mem_singleton.mp h
        exact Nat.lt_succ_self _
    · have hne : t.nextSequence ≠ 4294967295 := hend
      show t.nextSequence + 1 ≤ 4294967295
      omega

/-- The entry that an insertion appends keeps its serial. -/
theorem merged_serial (t : DepartedTable) (e : DepartedEntry) : (t.merged e).serial = e.serial := by
  unfold DepartedTable.merged
  split <;> rfl

/-- An insertion keeps the table's laws (R147). -/
theorem tableInv_insert (e : DepartedEntry) (ht : TableInv t) : TableInv (t.insert e) := by
  have hremoved := tableInv_remove e.serial ht
  have hnew : ∀ x ∈ (t.remove e.serial).entries, x.serial ≠ (t.merged e).serial := by
    intro x hx
    rw [merged_serial]
    simpa using (List.mem_filter.mp hx).2
  unfold DepartedTable.insert
  simp only
  split_ifs with hroom
  · exact tableInv_append hremoved hroom hnew
  · refine tableInv_append (tableInv_sublist (List.tail_sublist _) rfl hremoved) ?_ fun x hx => hnew x (List.mem_of_mem_tail hx)
    have hle := hremoved.1.bounded
    have hfull : Config.departedSlots = 24 := rfl
    rw [List.length_tail]
    omega

end

/-! ## The tables of a state -/

section
variable {s t : State}

/-- The laws of the held table, of the stored one and of the ones that wait to be stored. -/
theorem tablesInv_iff (s : State) : TablesInv s ↔ TableInv s.departed ∧ TableInv s.store.departed ∧
    ∀ w ∈ s.writes, ∀ t, w.item = .departed t → TableInv t := by
  constructor
  · exact fun h => ⟨h _ (.inl rfl), h _ (.inr (.inl rfl)), fun w hw t ht => h t (.inr (.inr ⟨w, hw, ht⟩))⟩
  · rintro ⟨hheld, hstored, hwaiting⟩ t (rfl | rfl | ⟨w, hw, ht⟩)
    · exact hheld
    · exact hstored
    · exact hwaiting w hw t ht

/-- A completed write keeps the stored table's laws. -/
theorem tableInv_apply {m : Retained} {item : StoreItem} (hm : TableInv m.departed) (hi : ∀ t, item = .departed t → TableInv t) :
    TableInv (m.apply item).departed := by
  cases item with
  | keyRevoked k => exact hm
  | departed t => exact hi t rfl
  | checkpoint i c => exact hm

/-- A completed write leaves a REVOKED slot REVOKED (R72). -/
theorem keepsRevoked_apply (m : Retained) (item : StoreItem) : keepsRevoked m (m.apply item) := by
  intro k hk
  cases item with
  | keyRevoked j =>
    by_cases h : (j : Nat) = (k : Nat)
    · simp [Retained.apply, h]
    · simpa [Retained.apply, h] using hk
  | departed t => exact hk
  | checkpoint i c => exact hk

end

end Sys2Proof.Laws
end

section
set_option Elab.async false
/-! PROOFS. The shared operations of events, store, stations, authentication and bus are sound: each by its own steps. -/

namespace Sys2Proof.Laws

open Sys2Proof.Machine Sys2Proof.Safety

variable (s : State) (i : Station)

/-! ## Events -/

theorem sound_raise (k : EventKind) (p : Place) (v : Nat) : Sound s (s.raise k p v) := .onEvents (queueInv_raise none)

theorem sound_raiseCondition (c : Condition) (v : Nat) : Sound s (s.raiseCondition c v) := .onEvents (queueInv_raise (some c))

theorem endCondition_entries (c : Condition) : (s.endCondition c).events.entries = s.events.entries := by
  unfold State.endCondition
  split <;> rfl

theorem sound_endCondition (c : Condition) : Sound s (s.endCondition c) := .onEvents (queueInv_congr (endCondition_entries s c))

/-! ## The retained store and the departed table -/

/-- A requested write of a table that has the laws, or of anything else. -/
theorem sound_requestWrite {item : StoreItem} (answers : Bool) (hi : ∀ t, item = .departed t → TablesInv s → TableInv t) :
    Sound s (s.requestWrite item answers) := by
  refine .onTables fun h => ?_
  obtain ⟨hheld, hstored, hwaiting⟩ := (tablesInv_iff s).mp h
  refine (tablesInv_iff _).mpr ⟨hheld, hstored, fun w hw t ht => ?_⟩
  rcases List.mem_append.mp hw with hw | hw
  · exact hwaiting w hw t ht
  · obtain rfl := List.mem_singleton.mp hw
    exact hi t ht h

theorem sound_requestCheckpoint (c : Option Checkpoint) : Sound s (s.requestWrite (.checkpoint i c) false) :=
  sound_requestWrite s false (by simp)

theorem sound_writeCheckpoint : Sound s (s.writeCheckpoint i) := by
  unfold State.writeCheckpoint
  split
  · exact sound_requestCheckpoint s i _
  · exact .refl s

theorem sound_clearCheckpoint : Sound s (s.clearCheckpoint i) := sound_requestCheckpoint s i none

/-- The held table changed to one that has the laws. -/
theorem sound_withDeparted {t : DepartedTable} (ht : TableInv s.departed → TableInv t) : Sound s (s.withDeparted t) := by
  refine .onTables fun h => ?_
  obtain ⟨hheld, hstored, hwaiting⟩ := (tablesInv_iff s).mp h
  exact (tablesInv_iff _).mpr ⟨ht hheld, hstored, hwaiting⟩

/-- The held table changed and its write requested (R149). -/
theorem sound_changeDeparted {t : DepartedTable} (answers : Bool) (ht : TableInv s.departed → TableInv t) :
    Sound s ((s.withDeparted t).requestWrite (.departed t) answers) := by
  refine (sound_withDeparted s ht).trans (sound_requestWrite _ answers fun t' ht' h => ?_)
  obtain rfl : t = t' := by injection ht'
  exact ((tablesInv_iff _).mp h).1

theorem sound_insertDeparted (e : DepartedEntry) : Sound s (s.insertDeparted e) := by
  unfold State.insertDeparted
  simp only
  split
  · exact (sound_raise s _ _ _).trans (sound_changeDeparted _ false (tableInv_insert e))
  · exact sound_changeDeparted s false (tableInv_insert e)

theorem sound_enterDeparted : Sound s (s.enterDeparted i) := by
  unfold State.enterDeparted
  split
  · exact (sound_insertDeparted s _).trans (sound_clearCheckpoint _ i)
  · exact .refl s

theorem sound_consumeDeparted (serial : Serial) : Sound s (s.consumeDeparted serial) := by
  unfold State.consumeDeparted
  split
  · exact sound_changeDeparted s false (tableInv_remove serial)
  · exact .refl s

/-! ## Station records -/

/-- A change of one station, whose volumes keep their laws. -/
theorem Sound.atStation {s t : State} (i : Station) (hother : ∀ k, k ≠ i → t.station k = s.station k)
    (hway : ∀ k, k ≠ i → underWay t k = underWay s k) (hi : Flows (s.station i) (underWay s i) (t.station i) (underWay t i))
    (hm : PendingInv s.meter → PendingInv t.meter) (hp : t.pending = s.pending := by simp) (hs : t.store = s.store := by simp)
    (he : t.events = s.events := by simp) (hd : t.departed = s.departed := by simp) (hw : t.writes = s.writes := by simp)
    (hl : t.link = s.link := by simp) : Sound s t := by
  refine .onVolumes (fun k => ?_) hm hp hs he hd hw hl
  by_cases hk : k = i
  · subst hk
    exact hi
  · rw [hother k hk, hway k hk]
    exact .refl _ _

/-- A change of a station's record that leaves its volumes alone and does not make it ACTIVE. -/
theorem sound_modStation {f : StationRec → StationRec} (hm : ∀ r, (f r).meter = r.meter) (hc : ∀ r, (f r).config = r.config)
    (hl : ∀ r, (f r).lifecycle = .active → r.lifecycle = .active) : Sound s (s.modStation i f) :=
  .modStation (Flows.of_meter (hm _) (hc _) (hl _))

/-- The same where the record's change decides the state, another than ACTIVE. -/
theorem sound_moveStation (f : StationRec → StationRec) (hm : ∀ r, (f r).meter = r.meter) (hc : ∀ r, (f r).config = r.config)
    (hl : ∀ r, (f r).lifecycle ≠ .active) : Sound s (s.modStation i f) :=
  sound_modStation s i hm hc fun r h => absurd h (hl r)

theorem sound_modCartridge (f : CartridgeRecord → CartridgeRecord) : Sound s (s.modCartridge i f) :=
  sound_modStation s i (fun _ => rfl) (fun _ => rfl) fun _ => id

theorem sound_abandonContext : Sound s (s.abandonContext i) := .untouched

theorem sound_enterQuarantined (cause : QuarantineCause) : Sound s (s.enterQuarantined i cause) :=
  ((sound_moveStation s i (StationRec.quarantined cause) (fun _ => rfl) (fun _ => rfl) (by simp [StationRec.quarantined])).trans (sound_abandonContext _ i)).trans
    (sound_raise _ _ _ _)

theorem sound_testWriteBack : Sound s (s.testWriteBack i) := .untouched

theorem sound_applyRefillPolicy : Sound s (s.applyRefillPolicy i) := by
  unfold State.applyRefillPolicy
  split
  · exact sound_enterQuarantined s i _
  · exact .refl s

theorem sound_recordEvidence (k : EvidenceKind) : Sound s (s.recordEvidence i k) := by
  unfold State.recordEvidence
  split
  · exact .refl s
  · split
    · refine (sound_modCartridge s i (CartridgeRecord.withEvidence k)).trans
        (.trans (.trans ?_ (sound_raise _ _ _ _)) (sound_applyRefillPolicy _ i))
      have htested {c : CartridgeRecord} {x : State} : Sound x (if c.refillMark then x else x.testWriteBack i) :=
        .ite (.refl x) (sound_testWriteBack x i)
      exact .ite htested (htested.trans (sound_writeCheckpoint _ i))
    · exact (sound_modCartridge s i _).trans (sound_raise _ _ _ _)

theorem sound_noteBand (held : Option LevelBand) (b : LevelBand) : Sound s (s.noteBand i held b) :=
  .ite (.refl s) (.ite (sound_modCartridge s i _) ((sound_modCartridge s i _).trans (sound_raise _ _ _ _)))

theorem sound_noteEmpty (c : CartridgeRecord) (used : Nat) : Sound s (s.noteEmpty i c used) := by
  have hnoted := (sound_modCartridge s i (fun c => { c with emptyLatch := true, emptyRaised := true })).trans
    (sound_raise _ .cartridgeEmpty (some i) used)
  exact .ite (.refl s) (.ite hnoted (hnoted.trans (sound_testWriteBack _ i)))

theorem sound_computeBand : Sound s (s.computeBand i) := by
  unfold State.computeBand
  split
  · exact .refl s
  · split
    · exact .ite ((sound_noteBand s i _ _).trans (sound_noteEmpty _ i _ _)) (sound_noteBand s i _ _)
    · exact .refl s

theorem sound_testOverdraw : Sound s (s.testOverdraw i) := by
  unfold State.testOverdraw
  split
  · exact .refl s
  · split
    · exact .ite ((sound_modCartridge s i _).trans (sound_recordEvidence _ i _)) (.refl s)
    · exact .refl s

theorem sound_chargeChecks : Sound s (s.chargeChecks i) :=
  ((sound_computeBand s i).trans (sound_testOverdraw _ i)).trans (sound_testWriteBack _ i)

/-- Charging the figures changes the record, and raises at most USED_SATURATED (R120). -/
theorem chargeFigures_eq (w : Nat) : s.chargeFigures i w = s.modStation i (StationRec.charge w) ∨
    ∃ v, s.chargeFigures i w = (s.modStation i (StationRec.charge w)).raise .usedSaturated (some i) v := by
  unfold State.chargeFigures
  split
  · split_ifs
    · exact .inl rfl
    · exact .inr ⟨_, rfl⟩
  · exact .inl rfl

/-! ## Charges -/

/-- A saturating sum below its maximum is the sum. -/
theorem satAdd_of_le {m a b : Nat} (h : a + b ≤ m) : satAdd m a b = a + b := by
  rw [satAdd, if_neg (by omega)]

/-- A charge of what has been on its way (R120). -/
theorem flows_charge (r : StationRec) (w u : Nat) : Flows r (w + u) (r.charge w) u where
  conserved h hlt := by
    have hsum := h hlt
    have hcharged : satAdd Config.maxNl r.meter.charged w = r.meter.charged + w :=
      satAdd_of_le (show _ ≤ 4294967295 by have : r.meter.converted < 4294967295 := hlt; omega)
    simp only [StationRec.charge, hcharged]
    omega
  fraction := id
  debt := id

/-- What has been on its way joins the debt up to the reserve, and the dry overflow beyond it (R121). -/
theorem flows_chargeDebt (r : StationRec) (w u : Nat) (hl : r.lifecycle ≠ .active) : Flows r (w + u) (r.chargeDebt w) u where
  conserved h hlt := by
    have hsum := h hlt
    have hpart : r.debtPart w ≤ w := Nat.min_le_left _ _
    have hdry : satAdd Config.maxNl r.meter.dryOverflow (w - r.debtPart w) = r.meter.dryOverflow + (w - r.debtPart w) :=
      satAdd_of_le (show _ ≤ 4294967295 by have : r.meter.converted < 4294967295 := hlt; omega)
    simp only [StationRec.chargeDebt, hdry]
    omega
  fraction := id
  debt := by
    rintro ⟨hle, -⟩
    refine ⟨?_, fun ha => absurd ha hl⟩
    have hpart : r.debtPart w ≤ r.config.swapReserve - r.meter.debt := Nat.min_le_right _ _
    simp only [StationRec.chargeDebt]
    omega

/-- The whole debt charged at an entry to ACTIVE (R9, R132). -/
theorem flows_activate (r : StationRec) (u : Nat) : Flows r u ((r.activated.charge r.meter.debt).clearDebt) u where
  conserved h hlt := by
    have hsum := h hlt
    have hcharged : satAdd Config.maxNl r.meter.charged r.meter.debt = r.meter.charged + r.meter.debt :=
      satAdd_of_le (show _ ≤ 4294967295 by have : r.meter.converted < 4294967295 := hlt; omega)
    simp only [StationRec.clearDebt, StationRec.charge, StationRec.activated, hcharged]
    omega
  fraction := id
  debt _ := ⟨Nat.zero_le _, fun _ => rfl⟩

/-! ## The entry to ACTIVE -/

/-- The first steps of an entry to ACTIVE: the state, and the debt charged and taken to 0 (R9, R132). -/
theorem sound_chargeWholeDebt : Sound s
    (((s.modStation i StationRec.activated).chargeFigures i (s.station i).meter.debt).modStation i StationRec.clearDebt) := by
  have hmod : Sound s (((s.modStation i StationRec.activated).modStation i (StationRec.charge (s.station i).meter.debt)).modStation i
      StationRec.clearDebt) := by
    refine .atStation i (fun k hk => ?_) (fun _ _ => rfl) ?_ id
    · rw [modStation_station_other hk, modStation_station_other hk, modStation_station_other hk]
    · simp only [modStation_station_same]
      exact flows_activate _ _
  rcases chargeFigures_eq (s.modStation i StationRec.activated) i (s.station i).meter.debt with h | ⟨v, h⟩ <;> rw [h]
  · exact hmod
  · exact hmod.trans (sound_raise _ .usedSaturated (some i) v)

theorem sound_enterActive : Sound s (s.enterActive i) := by
  have hdebt : ((s.modStation i StationRec.activated).station i).meter.debt = (s.station i).meter.debt := by
    simp [StationRec.activated]
  unfold State.enterActive State.activationTransfer
  simp only [hdebt]
  refine ((sound_chargeWholeDebt s i).trans ?_).trans (sound_raise _ _ _ _)
  exact .trans (.ite (sound_endCondition _ _) (.refl _)) (sound_chargeChecks _ i)

/-! ## Identification -/

theorem sound_startContext (recheck : Bool) : Sound s (s.startContext i recheck) := .untouched

theorem sound_enterIdentifying : Sound s (s.enterIdentifying i) :=
  (sound_moveStation s i StationRec.newHolding (fun _ => rfl) (fun _ => rfl) (by simp [StationRec.newHolding])).trans (sound_startContext _ i false)

theorem sound_reconcile (id : Identity) : Sound s (s.reconcile i id) :=
  (((sound_modCartridge s i _).trans (sound_computeBand _ i)).trans (sound_modCartridge _ i _)).trans
    (.foldl (fun x k => sound_recordEvidence x i k) _ _)

theorem sound_settleInk : Sound s (s.settleInk i) := by
  have htaken : Sound s (s.modStation i (fun r => { r with ink := r.ink.takeReading })) :=
    sound_modStation s i (fun _ => rfl) (fun _ => rfl) fun _ => id
  exact .ite (sound_modStation s i (fun _ => rfl) (fun _ => rfl) fun _ => id)
    (.ite (htaken.trans (sound_recordEvidence _ i _)) htaken)

/-- A record's change at a presence edge leaves the volumes alone. -/
theorem sound_presenceRise : Sound s (s.presenceRise i) := by
  refine .ite (.refl s) (.trans .untouched (.whenInService (sound_modStation _ i ?_ ?_ ?_))) <;> intro r <;>
    simp only [StationRec.presenceRise, StationRec.seat] <;> split_ifs <;> simp_all

theorem sound_presenceFall : Sound s (s.presenceFall i) := by
  refine .ite (.trans .untouched (.whenInService (sound_modStation _ i ?_ ?_ ?_))) (.refl s) <;> intro r <;>
    simp only [StationRec.presenceFall] <;> split_ifs <;> simp_all

/-! ## Authentication -/

theorem sound_beginAttempt (c : AuthContext) : Sound s (s.beginAttempt i c) := .untouched

theorem sound_endAttempt (c : AuthContext) (e : AttemptEnding) : Sound s (s.endAttempt i c e) :=
  .ite (sound_beginAttempt s i _) (sound_enterQuarantined s i _)

theorem sound_moveAfterPass (cls : AccountClass) : Sound s (s.moveAfterPass i cls) := by
  unfold State.moveAfterPass
  split
  · exact sound_enterQuarantined s i _
  all_goals exact sound_enterActive s i

theorem sound_enqueue (j : Job) : Sound s (s.enqueue j) := .untouched

theorem sound_setContext (c : Option AuthContext) : Sound s (s.setContext i c) := .untouched

theorem sound_firstPass : Sound s (s.firstPass i) := by
  unfold State.firstPass
  split
  · exact .refl s
  · refine .trans (.trans (.trans (.trans (sound_modCartridge s i CartridgeRecord.passed) ?_) (sound_writeCheckpoint _ i))
      (sound_setContext _ i none)) (sound_moveAfterPass _ i _)
    split
    · exact sound_consumeDeparted _ _
    · exact .refl _

theorem sound_recheckPass : Sound s (s.recheckPass i) := (sound_setContext s i none).trans (sound_raise _ _ _ _)

theorem sound_enterAuthenticating (id : Identity) : Sound s (s.enterAuthenticating i id) := by
  have hmoved : Sound s ((s.reconcile i id).modStation i (fun r => { r with lifecycle := .authenticating })) :=
    (sound_reconcile s i id).trans (sound_moveStation _ i _ (fun _ => rfl) (fun _ => rfl) (by simp))
  unfold State.enterAuthenticating
  simp only
  split
  · exact hmoved.trans (sound_beginAttempt _ i _)
  · exact hmoved

theorem sound_identifyCartridge (data : List Byte) : Sound s (s.identifyCartridge i data) := by
  refine .ite ((sound_modCartridge s i (CartridgeRecord.identified data)).trans ?_) (sound_enterQuarantined s i _)
  simp only
  split
  · exact sound_enterQuarantined _ i _
  · exact sound_enterAuthenticating _ i _

theorem sound_recordIfAny (k : Option EvidenceKind) : Sound s (s.recordIfAny i k) := by
  cases k with
  | none => exact .refl s
  | some k => exact sound_recordEvidence s i k

theorem sound_continueRecheck (tagUsed : Nat) : Sound s (s.continueRecheck i tagUsed) := .untouched

theorem sound_recheckRead (data : List Byte) : Sound s (s.recheckRead i data) := by
  unfold State.recheckRead
  split
  · exact .refl s
  · split
    · exact .ite ((sound_recordIfAny s i _).trans (sound_continueRecheck _ i _)) (sound_enterQuarantined s i _)
    · exact .refl s

theorem sound_sendVerify (c : AuthContext) (d : Digest) : Sound s (s.sendVerify i c d) := .untouched

theorem sound_authResult (r : JobResult) (data : List Byte) : Sound s (s.authResult i r data) := by
  unfold State.authResult
  split
  · exact .refl s
  · split
    · cases r
      case done => exact .ite (sound_recheckRead s i data) (sound_identifyCartridge s i data)
      case removed | aborted => exact .refl s
      all_goals exact sound_enterQuarantined s i _
    · cases r
      case done => exact (sound_setContext s i _).trans (sound_enqueue _ _)
      case removed | aborted => exact .refl s
      all_goals exact sound_endAttempt s i _ _
    · cases r
      case done => exact sound_sendVerify s i _ _
      case removed | aborted => exact .refl s
      all_goals exact sound_endAttempt s i _ _
    · exact .refl s

theorem sound_startVerify : Sound s s.startVerify := .untouched

theorem sound_completeVerify : Sound s s.completeVerify := by
  unfold State.completeVerify
  split
  · exact .refl s
  · refine .trans (t := s.withAuth { s.auth with computing := none }) .untouched (.ite (.refl _) ?_)
    unfold State.verifyOutcome
    simp only
    split
    · exact .refl _
    · exact .ite (sound_enterQuarantined _ _ _)
        (.ite (.ite (sound_recheckPass _ _) (sound_firstPass _ _)) (sound_endAttempt _ _ _ _))

/-! ## Jobs -/

theorem sound_completeDeparture (failure : Option JobResult) : Sound s (s.completeDeparture i failure) := by
  have hdone : Sound s ((s.enterDeparted i).modStation i (fun r => { r with lifecycle := .released })) :=
    (sound_enterDeparted s i).trans (sound_moveStation _ i _ (fun _ => rfl) (fun _ => rfl) (by simp))
  refine .ite ?_ (.refl s)
  cases failure with
  | none => exact hdone
  | some r => exact hdone.trans (sound_raise _ _ _ _)

theorem sound_writeBackFailed (cls : JobClass) (r : JobResult) : Sound s (s.writeBackFailed i cls r) := by
  have hnoted : Sound s (if r = .refused then s.recordEvidence i .conflict else s) := .ite (sound_recordEvidence s i _) (.refl s)
  exact .ite (hnoted.trans (sound_completeDeparture _ i _)) (.ite hnoted (hnoted.trans (sound_raise _ _ _ _)))

theorem sound_recordWritten (j : Job) : Sound s (s.recordWritten i j) := by
  unfold State.recordWritten
  split
  · exact sound_modCartridge s i _
  · exact .refl s

theorem sound_writeBackResult (j : Job) (r : JobResult) : Sound s (s.writeBackResult i j r) := by
  refine .ite (.refl s) ?_
  cases r
  case done =>
    have hwritten : Sound s ((s.recordWritten i j).writeCheckpoint i) := (sound_recordWritten s i j).trans (sound_writeCheckpoint _ i)
    exact .ite (hwritten.trans (sound_completeDeparture _ i none)) hwritten
  case removed | aborted => exact .refl s
  all_goals exact sound_writeBackFailed s i _ _

theorem sound_hostResult (j : Job) (r : JobResult) (data : List Byte) : Sound s (s.hostResult i j r data) := by
  unfold State.hostResult
  split
  · exact .trans .untouched (sound_raise _ _ _ _)
  · exact .refl s

theorem sound_deliver (j : Job) (r : JobResult) (data : List Byte) : Sound s (s.deliver j r data) := by
  unfold State.deliver
  split
  · exact .refl s
  · split
    · exact .refl s
    iterate 3 exact .ite (.refl s) (sound_authResult s _ r data)
    · exact sound_writeBackResult s _ j r
    all_goals exact sound_hostResult s _ j r data

theorem sound_withBus (b : Bus) : Sound s (s.withBus b) := .untouched

theorem sound_retireJob (j : Job) (r : JobResult) (data : List Byte) : Sound s (s.retireJob j r data) :=
  (sound_withBus s _).trans (sound_deliver _ j r data)

theorem sound_endJob (j : Job) (r : JobResult) (data : List Byte) : Sound s (s.endJob j r data) := by
  have hfollow (x : State) : Sound x (x.followOn j r) := .untouched
  have hafter (x : State) : Sound x (x.afterAuthJob j) := .untouched
  exact ((sound_retireJob s j r data).trans (hfollow _)).trans (hafter _)

theorem sound_finishJob (j : Job) (r : JobResult) (data : List Byte) : Sound s (s.finishJob j r data) := by
  unfold State.finishJob
  split <;> exact sound_endJob s j _ _

theorem sound_failedAttempt (j : Job) (f : AttemptFailure) : Sound s (s.failedAttempt j f) := by
  unfold State.failedAttempt
  split
  · exact sound_endJob s j _ _
  · exact .ite (sound_endJob s _ _ _) (sound_withBus s _)

theorem sound_loseArbitration (j : Job) : Sound s (s.loseArbitration j) := by
  unfold State.loseArbitration
  simp only
  split
  · exact (sound_withBus s _).trans (sound_endJob _ j _ _)
  · exact (sound_withBus s _).trans (sound_withBus _ _)

theorem sound_openTransaction (h : Nat) (f : Job → Job) (e : List BusElement) : Sound s (s.openTransaction h f e) := .untouched

theorem sound_startJob (j : Job) : Sound s (s.startJob j) := by
  unfold State.startJob
  split
  · exact (sound_modCartridge s _ _).trans (sound_openTransaction _ _ _ _)
  · exact sound_openTransaction s _ _ _

theorem sound_continueBetween : Sound s s.continueBetween := .untouched

theorem sound_removeJobs : Sound s (s.removeJobs i) :=
  (sound_withBus s _).trans (.foldl (fun x j => sound_retireJob x j _ _) _ _)

theorem sound_requestWake : Sound s s.requestWake := .untouched

theorem sound_recovered : Sound s s.recovered :=
  (((sound_withBus s _).trans (sound_raise _ _ _ _)).trans (sound_requestWake _)).trans (sound_endCondition _ _)

theorem sound_endRecovery (high : Bool) : Sound s (s.endRecovery high) :=
  .ite (sound_recovered s) ((sound_withBus s _).trans (sound_raiseCondition _ _ _))

theorem sound_stuck : Sound s s.stuck := by
  have hfailed : Sound s (match s.bus.activeJob with
      | some j => s.failedAttempt j .busFault
      | none => s) := by
    split
    · exact sound_failedAttempt s _ _
    · exact .refl s
  exact (hfailed.trans (.ite (sound_endCondition _ _) (.refl _))).trans (sound_withBus _ _)

end Sys2Proof.Laws
end

section
set_option Elab.async false
/-! PROOFS. The commands of every block are sound, and so is every command; what every step keeps (O2, O9, O57, O58) follows. -/

namespace Sys2Proof.Laws

open Sys2Proof.Machine Sys2Proof.Safety

variable (s : State) (i : Station)

/-! ## The tally receiver (chapter 5) -/

theorem sound_withTally (t : Tally) : Sound s (s.withTally t) := .untouched

theorem sound_confirmTest : Sound s s.confirmTest := by
  unfold State.confirmTest
  split
  · exact .ite (.refl s) (.ite
      (((sound_withTally s _).trans (sound_raise _ _ _ _)).trans (sound_endCondition _ _)) (sound_withTally s _))
  all_goals exact .refl s

theorem sound_countMarkerError : Sound s s.countMarkerError :=
  .ite ((sound_withTally s _).trans (sound_raiseCondition _ _ _)) (sound_withTally s _)

theorem sound_countCheckError : Sound s s.countCheckError :=
  .ite ((sound_withTally s _).trans (sound_raiseCondition _ _ _)) (sound_withTally s _)

theorem sound_judgeBad (expected : Fin 8) : Sound s (s.judgeBad expected) := by
  have hcounted : Sound s (s.withTally (s.tally.judgeBad expected)).countMarkerError :=
    (sound_withTally s _).trans (sound_countMarkerError _)
  exact .ite hcounted (hcounted.trans ((sound_withTally _ _).trans (sound_raiseCondition _ _ _)))

theorem sound_judgeFrame : Sound s s.judgeFrame := by
  unfold State.judgeFrame
  split
  · exact .ite (.refl s) ((sound_withTally s _).trans (.ite (sound_withTally _ _) (sound_judgeBad _ _)))
  all_goals exact .refl s

/-- A committed cycle takes a place of the pending store only where there is one (R110). -/
theorem sound_handOn (c : CommittedCycle) : Sound s (s.handOn c) := by
  unfold State.handOn
  split_ifs with hroom
  · exact .onVolumes (fun _ => .refl _ _) (fun _ => by simpa [PendingInv] using hroom)
  · exact .refl s

theorem sound_commitActual (c : CommittedCycle) : Sound s (s.commitActual c) :=
  ((sound_handOn s c).trans (sound_withTally _ _)).trans (sound_endCondition _ _)

theorem sound_attemptEstimate : Sound s s.attemptEstimate :=
  .ite ((sound_handOn s _).trans (sound_withTally _ _)) (sound_raiseCondition s _ _)

theorem sound_endCycle : Sound s s.endCycle := by
  unfold State.endCycle
  split
  · exact .refl s
  · have hchecked (good : Bool) : Sound s (s.noteCheck good) :=
      .ite (sound_withTally s _) ((sound_withTally s _).trans (sound_countCheckError _))
    have hdecided (x : State) (b : CycleBuffer) (good : Bool) : Sound x (x.decideCycle b good) :=
      .ite (sound_commitActual x _) (sound_attemptEstimate x)
    have hafter (x : State) : Sound x x.afterCycle :=
      .ite ((sound_withTally x _).trans (sound_raiseCondition _ _ _)) (sound_withTally x _)
    exact .ite (((hchecked _).trans (hdecided _ _ _)).trans (hafter _)) (.refl s)

theorem sound_cycleTimerExpires : Sound s s.cycleTimerExpires := by
  unfold State.cycleTimerExpires
  split
  iterate 2 exact .refl s
  · exact sound_withTally s _
  all_goals exact (sound_attemptEstimate s).trans (sound_withTally _ _)

theorem sound_takeEdge (rising tld : Bool) : Sound s (s.takeEdge rising tld) := by
  unfold State.takeEdge
  split
  · exact (sound_withTally s _).trans (sound_endCondition _ _)
  · exact .refl s

theorem sound_silenceExpires : Sound s s.silenceExpires :=
  .ite ((sound_withTally s _).trans (sound_raiseCondition _ _ _)) (.refl s)

theorem sound_configureLink (source : TallySource) (c : LinkConfig) : Sound s (s.configureLink source c) := by
  have hsource (x : State) (old : LinkConfig) : Sound x (x.applySource source old) := by
    unfold State.applySource
    split
    · exact ((sound_withTally x _).trans (sound_endCondition _ _)).trans (sound_endCondition _ _)
    · exact sound_withTally x _
    · exact .refl x
    · exact .ite (.refl x) (sound_withTally x _)
  have hwidth (x : State) (old : LinkConfig) : Sound x (x.applyWidth old) :=
    .ite (.trans (t := x.narrowMarkerErrors)
      (.ite ((sound_withTally x _).trans (sound_raiseCondition _ _ _)) (.refl x))
      (.ite ((sound_withTally _ _).trans (sound_raiseCondition _ _ _)) (.refl _))) (.refl x)
  exact ((sound_withTally s _).trans (hsource _ _)).trans (hwidth _ _)

/-! ## The metering unit (chapter 6) -/

/-- A change of a station's metering fields that leaves the volumes alone. -/
theorem sound_modMeter {f : Metering → Metering} (hf : ∀ m, (f m).fraction = m.fraction ∧ (f m).converted = m.converted ∧
    (f m).charged = m.charged ∧ (f m).debt = m.debt ∧ (f m).dryOverflow = m.dryOverflow := by
      exact fun _ => ⟨rfl, rfl, rfl, rfl, rfl⟩) : Sound s (s.modMeter i f) := by
  refine .modStation fun u => ?_
  obtain ⟨hfraction, hconverted, hcharged, hdebt, hdry⟩ := hf (s.station i).meter
  exact ⟨fun h => by simpa [ConservedAt, hconverted, hcharged, hdebt, hdry] using h, fun h => by simpa [hfraction] using h,
    fun h => by simpa [DebtAt, hdebt] using h⟩

theorem sound_temperatureStage (t : Option TempReading) : Sound s (s.temperatureStage i t) := by
  unfold State.temperatureStage
  split
  · exact .refl s
  · exact (sound_modMeter s i).trans (sound_raiseCondition _ _ _)
  · have htaken (t : Nat) : Sound s ((s.modMeter i (Metering.takeTemp s.part t)).endCondition (.tempFault i)) :=
      (sound_modMeter s i).trans (sound_endCondition _ _)
    unfold State.takeTemp
    simp only
    split_ifs
    · exact htaken _
    · exact (htaken _).trans (sound_raise _ _ _ _)

/-- A delivery under way adds to what is on its way to its station. -/
theorem underWay_delivered (d : Delivery) (k : Station) :
    underWay (s.withMeter { s.meter with deliveries := s.meter.deliveries ++ [d] }) k =
      underWay s k + if d.station = k then d.nl else 0 := by
  by_cases h : d.station = k <;> simp [underWay, h]

/-- Stage 5 keeps the fraction below a nanolitre, and what it converts is on its way (R118, R122). -/
theorem flows_accumulate (r : StationRec) (volume u : Nat) :
    Flows r u { r with meter := r.meter.accumulate volume } (u + r.meter.whole volume) where
  conserved h hlt := by
    have hconverted : satAdd Config.maxNl r.meter.converted (r.meter.whole volume) < 4294967295 := hlt
    have hle : r.meter.converted + r.meter.whole volume ≤ Config.maxNl := by
      by_contra hover
      rw [satAdd, if_pos (by omega)] at hconverted
      exact absurd hconverted (by decide)
    rw [satAdd_of_le hle] at hconverted
    have hsum := h (by omega)
    simp only [Metering.accumulate, satAdd_of_le hle]
    omega
  fraction _ := Nat.mod_lt _ (by decide)
  debt := id

theorem sound_convertStage (volume : Nat) : Sound s (s.convertStage i volume) := by
  have hflow := flows_accumulate (s.station i) volume (underWay s i)
  unfold State.convertStage State.modMeter
  simp only
  split_ifs with hnone
  · refine .modStation fun u => ?_
    have := flows_accumulate (s.station i) volume u
    rwa [hnone] at this
  · refine (.atStation i (fun k hk => by simpa using modStation_station_other hk _) (fun k hk => ?_) ?_ id)
    · rw [underWay_delivered, if_neg (Ne.symm hk)]
      rfl
    · rw [underWay_delivered, if_pos rfl]
      simpa [underWay_congr (State.modStation_meter s i _)] using hflow

theorem sound_computeStation (c : CommittedCycle) : Sound s (State.computeStation c s i) := by
  have hcalibrated (x : State) (n : Drops) : Sound x (x.testCalibration i n) := .ite (.refl x) (sound_raiseCondition x _ _)
  have hclamped (x : State) (n : Nat) : Sound x (x.clampStage i n) :=
    .ite ((sound_modMeter x i).trans (sound_raise _ _ _ _)) (.refl x)
  exact ((sound_modMeter s i).trans (sound_temperatureStage _ i _)).trans
    (((hcalibrated _ _).trans (hclamped _ _)).trans (sound_convertStage _ i _))

theorem sound_computeCycle : Sound s s.computeCycle := by
  unfold State.computeCycle
  split
  · exact .refl s
  · next c rest hcycles =>
    have hstations := Sound.forStations (fun x k => sound_computeStation x k c) s
    refine ⟨hstations.pending, hstations.slots, hstations.queue, hstations.tables, fun h => ⟨(hstations.places h).1, ?_⟩, hstations.volumes⟩
    have hheld := h.2
    rw [PendingInv, hcycles] at hheld
    exact Nat.le_of_succ_le hheld

/-- Taking the oldest delivery of a station takes it from what is on its way there, and nothing else (R119). -/
theorem underWay_oldestDelivery {ds rest : List Delivery} {w : Nat} (h : oldestDelivery i ds = some (w, rest)) (k : Station) :
    ((ds.filter (fun d => d.station = k)).map (·.nl)).sum =
      (if k = i then w else 0) + ((rest.filter (fun d => d.station = k)).map (·.nl)).sum := by
  induction ds generalizing rest with
  | nil => cases h
  | cons d ds ih =>
    rw [oldestDelivery] at h
    split at h
    · next hd =>
      obtain ⟨rfl, rfl⟩ := Prod.mk.inj (Option.some.inj h)
      by_cases hk : k = i
      · simp [hk, hd]
      · simp [hk, hd, Ne.symm hk]
    · split at h
      · next w' others hothers =>
        obtain ⟨rfl, rfl⟩ := Prod.mk.inj (Option.some.inj h)
        have := ih hothers
        by_cases hd : d.station = k
        · simp only [hd, List.filter_cons, decide_true, if_true, List.map_cons, List.sum_cons]
          omega
        · simpa [hd, List.filter_cons] using this
      · cases h

/-- The station controller takes a delivery and routes it: to the cartridge, or to the debt (R119). -/
theorem sound_takeDelivery : Sound s (s.takeDelivery i) := by
  unfold State.takeDelivery
  split
  · next w rest holdest =>
    have hway (k : Station) : underWay s k = (if k = i then w else 0) + underWay (s.withMeter { s.meter with deliveries := rest }) k :=
      underWay_oldestDelivery i holdest k
    have htaken {f : StationRec → StationRec}
        (hf : ∀ u, Flows (s.station i) (w + u) (f (s.station i)) u) :
        Sound s ((s.withMeter { s.meter with deliveries := rest }).modStation i f) := by
      refine .atStation i (fun k hk => modStation_station_other hk _) (fun k hk => ?_) ?_ id
      · rw [hway k, if_neg hk, Nat.zero_add]
        rfl
      · rw [hway i, if_pos rfl, modStation_station_same]
        exact hf _
    unfold State.routeDelivery
    split_ifs with hcharges
    · refine .trans ?_ (sound_chargeChecks _ i)
      rcases chargeFigures_eq (s.withMeter { s.meter with deliveries := rest }) i w with h | ⟨v, h⟩ <;> rw [h]
      · exact htaken (flows_charge _ w)
      · exact (htaken (flows_charge _ w)).trans (sound_raise _ _ _ _)
    · have hdebt := htaken (flows_chargeDebt (s.station i) w · (fun ha => hcharges (by simp [ha, Lifecycle.charges])))
      exact .ite (hdebt.trans (sound_raiseCondition _ _ _)) hdebt
  · exact .refl s

/-! ## The request engine and the retained store (chapters 10 and 11) -/

/-- A change of the request engine that holds no more frames. -/
theorem sound_withLink {h : HostLink} (hslots : h.slots.length ≤ s.link.slots.length) : Sound s (s.withLink h) :=
  .onLink fun hb => hslots.trans hb

theorem sound_formReply (kind tag : Byte) (status : Status) (lost : Bool) (body : List Byte) :
    Sound s (s.formReply kind tag status lost body) := sound_withLink s (le_refl _)

theorem sound_answer (r : Request) (status : Status) (body : List Byte) : Sound s (s.answer r status body) :=
  sound_formReply s _ _ _ _ _

theorem sound_await (r : Request) : Sound s (s.await r) := sound_withLink s (le_refl _)

theorem sound_answerDone (r : Request) : Sound s (s.answerDone r) :=
  .ite ((sound_answer s r _ _).trans (sound_withLink _ (le_refl _))) (sound_answer s r _ _)

/-- A frame takes a slot only where there is one (R176). -/
theorem bufferInv_acceptFrame {h : HostLink} (f : RxFrame) (hb : BufferInv h) : BufferInv (h.acceptFrame f) := by
  unfold HostLink.acceptFrame
  split_ifs with hroom
  · simpa [BufferInv] using hroom
  · exact hb

theorem bufferInv_settle {h : HostLink} (hb : BufferInv h) : BufferInv h.settle := by
  unfold HostLink.settle
  split
  · split_ifs
    · exact bufferInv_acceptFrame _ hb
    · exact hb
  · exact hb

theorem gapExpires_slots (h : HostLink) : h.gapExpires.slots = h.slots := by
  unfold HostLink.gapExpires
  split
  · split_ifs <;> rfl
  · rfl

theorem meetByte_slots (h : HostLink) (b : Byte) : (h.meetByte b).slots = h.slots := by
  unfold HostLink.meetByte
  split
  · split_ifs <;> rfl
  · rfl

theorem sound_onLink {f : HostLink → HostLink} (hf : BufferInv s.link → BufferInv (f s.link)) : Sound s (s.onLink f) :=
  .whenRunning (.onLink hf)

/-- Taking a frame keeps its slot. -/
theorem length_takeSlot {slots slots' : List RxSlot} {f : RxFrame} (h : takeSlot slots = some (f, slots')) :
    slots'.length = slots.length := by
  induction slots generalizing slots' with
  | nil => cases h
  | cons x rest ih =>
    rw [takeSlot] at h
    split at h
    · split at h
      · next f' rest' hrest =>
        obtain ⟨rfl, rfl⟩ := Prod.mk.inj (Option.some.inj h)
        simp [ih hrest]
      · cases h
    · obtain ⟨rfl, rfl⟩ := Prod.mk.inj (Option.some.inj h)
      rfl

theorem sound_takeRequest : Sound s s.takeRequest := by
  unfold State.takeRequest
  split
  · next f slots _ hslots =>
    refine .trans (t := s.withLink { s.link with slots }) (sound_withLink s (length_takeSlot hslots).le) ?_
    simp only
    split
    · exact sound_formReply _ _ _ _ _ _
    · exact sound_withLink _ (le_refl _)
  · exact .refl s

theorem sound_serve (kind : RequestKind) {f : State → Request → State} (hf : ∀ r, Sound s (f s r)) : Sound s (s.serve kind f) := by
  refine .ite ?_ (.refl s)
  split
  · exact .ite (hf _) (.refl s)
  all_goals exact .refl s

/-- Giving up the volatile state leaves it with every law (R187 step 1). -/
theorem sound_volatileReset : Sound s s.volatileReset where
  pending := rfl
  slots _ := id
  queue _ := ⟨Nat.zero_le _, .nil, by simp [State.volatileReset, EventQueue.initial]⟩
  tables h := (tablesInv_iff _).mpr ⟨tableInv_empty (Nat.zero_le _), ((tablesInv_iff s).mp h).2.1, by simp [State.volatileReset]⟩
  places _ := ⟨Nat.zero_le _, Nat.zero_le _⟩
  volumes i := by
    have hinitial : s.volatileReset.station i = StationRec.initial := by simp [State.station, State.volatileReset]
    rw [hinitial]
    exact ⟨fun _ _ => rfl, fun _ => by decide, fun _ => ⟨Nat.zero_le _, fun _ => rfl⟩⟩

theorem sound_foldCheckpoint : Sound s (s.foldCheckpoint i) := by
  unfold State.foldCheckpoint
  split
  · exact (sound_insertDeparted s _).trans (sound_clearCheckpoint _ i)
  · exact .refl s

/-- The stored table read where every stored table has the laws (R187 step 2). -/
theorem sound_readStore : Sound s s.readStore := by
  refine .onTables (t := s.withDeparted s.store.departed) fun h => ?_
  obtain ⟨-, hstored, hwaiting⟩ := (tablesInv_iff s).mp h
  exact (tablesInv_iff _).mpr ⟨hstored, hstored, hwaiting⟩

theorem sound_startUp : Sound s s.startUp := by
  have hsample (x : State) (k : Station) : Sound x (x.samplePresence k) :=
    .ite (sound_moveStation x k _ (fun _ => rfl) (fun _ => rfl) (by simp [StationRec.seat])) (.refl x)
  exact ((((sound_volatileReset s).trans (sound_readStore _)).trans (.forStations sound_foldCheckpoint _)).trans
    (sound_requestWake _)).trans (.forStations hsample _)

/-- A write that waits, completed (R186). -/
theorem sound_completeItem {w : StoreWrite} {rest : List StoreWrite} (hw : s.writes = w :: rest) :
    Sound s ((s.withStore (s.store.apply w.item)).withWrites rest) where
  pending := rfl
  slots := keepsRevoked_apply _ _
  queue := id
  tables h := by
    obtain ⟨hheld, hstored, hwaiting⟩ := (tablesInv_iff s).mp h
    rw [hw] at hwaiting
    exact (tablesInv_iff _).mpr
      ⟨hheld, tableInv_apply hstored (hwaiting w (by simp)), fun x hx => hwaiting x (List.mem_cons_of_mem _ hx)⟩
  places := id
  volumes _ := .refl _ _

/-- All the writes that wait, completed one after another (R186). -/
theorem sound_completeItems : Sound s ((s.withStore (s.store.applyAll s.writes)).withWrites []) := by
  have hrun (ws : List StoreWrite) (x : State) (hx : x.writes = ws) :
      Sound x ((x.withStore (x.store.applyAll ws)).withWrites []) := by
    induction ws generalizing x with
    | nil =>
      have hsame : (x.withStore (x.store.applyAll [])).withWrites [] = x := by
        cases x
        cases hx
        rfl
      rw [hsame]
      exact .refl x
    | cons w rest ih => exact (sound_completeItem x hx).trans (ih _ rfl)
  exact hrun _ s rfl

theorem sound_restartStartUp : Sound s s.restartStartUp := (sound_completeItems s).trans (sound_startUp _)

theorem sound_dropWrites : Sound s (s.withWrites []) :=
  .onTables fun h => by
    obtain ⟨hheld, hstored, -⟩ := (tablesInv_iff s).mp h
    exact (tablesInv_iff _).mpr ⟨hheld, hstored, by simp⟩

theorem sound_goDown (landed : Bool) : Sound s (s.goDown landed) := by
  refine .trans ?_ (sound_volatileReset _)
  unfold State.interruptStore
  split
  · exact .refl s
  · next w rest hw =>
    split_ifs
    · exact (sound_completeItem s hw).trans (sound_dropWrites _)
    · exact sound_dropWrites s

theorem sound_replySent : Sound s s.replySent := by
  unfold State.replySent
  split
  · exact .refl s
  · next rest _ =>
    refine .trans (t := s.withLink { s.link with replies := rest, slots := s.link.slots.eraseP (·.taken) })
      (sound_withLink s List.eraseP_sublist.length_le) ?_
    simp only
    split
    · exact sound_restartStartUp _
    · exact .refl _

theorem sound_completeWrite : Sound s s.completeWrite := by
  unfold State.completeWrite
  split
  · exact .refl s
  · next w rest hw =>
    have happlied (x : State) (item : StoreItem) : Sound x (x.applyWritten item) := by
      cases item with
      | keyRevoked slot => exact .forStations (fun y k => .ite (sound_enterQuarantined y k _) (.refl y)) _
      | departed t => exact .refl _
      | checkpoint k c => exact .refl _
    have hanswered (x : State) : Sound x (x.answerWaiting w.answers) := by
      unfold State.answerWaiting
      split
      · exact sound_answerDone _ _
      · exact .refl _
    exact ((sound_completeItem s hw).trans (happlied _ _)).trans (hanswered _)

/-- Entering HALTED leaves the volumes and the lifecycle states as they are (R189 step 1). -/
theorem sound_stop : Sound s s.stop := by
  have hstation (k : Station) : s.stop.station k = (s.station k).stopTimers := by simp [State.station, State.stop]
  have hflow (k : Station) : Flows (s.station k) (underWay s k) (s.station k).stopTimers (underWay s k) :=
    .of_meter (r := s.station k) (r' := (s.station k).stopTimers) rfl rfl id _
  exact .onVolumes (fun k => by rw [hstation]; exact hflow k) id rfl rfl rfl rfl rfl rfl

/-- A request answered after some writes, none of which is a table that lacks the laws. -/
theorem sound_answerAfter (r : Request) {before awaited : List StoreWrite}
    (hi : ∀ w ∈ before ++ awaited, w ∈ s.writes ∨ ∀ t, w.item ≠ .departed t) : Sound s (s.answerAfter r before awaited) := by
  have hlast (ws : List StoreWrite) : ∀ w ∈ lastAnswers ws, ∃ x ∈ ws, w.item = x.item := by
    intro w hw
    rcases List.eq_nil_or_concat ws with rfl | ⟨init, last, rfl⟩
    · cases hw
    · rw [List.concat_eq_append, lastAnswers_append] at hw
      rcases List.mem_append.mp hw with hw | hw
      · exact ⟨w, by simp [hw], rfl⟩
      · exact ⟨last, by simp, by rw [List.mem_singleton.mp hw]⟩
  unfold State.answerAfter
  split
  · exact sound_answerDone s r
  · next w ws =>
    refine .trans (.onTables fun h => ?_) (sound_await _ r)
    obtain ⟨hheld, hstored, hwaiting⟩ := (tablesInv_iff s).mp h
    refine (tablesInv_iff _).mpr ⟨hheld, hstored, fun x hx t ht => ?_⟩
    obtain ⟨y, hy, hitem⟩ : ∃ y ∈ before ++ w :: ws, x.item = y.item := by
      rcases List.mem_append.mp hx with hx | hx
      · exact ⟨x, by simp [hx], rfl⟩
      · obtain ⟨y, hy, hitem⟩ := hlast _ x hx
        exact ⟨y, List.mem_append_right _ hy, hitem⟩
    rcases hi y hy with hmem | hne
    · exact hwaiting y hmem t (hitem ▸ ht)
    · exact absurd (hitem ▸ ht) (hne t)

/-- The writes of a halt are checkpoints (R189 step 2). -/
theorem item_of_mem_haltWrites {w : StoreWrite} (hw : w ∈ s.haltWrites) (t : DepartedTable) : w.item ≠ .departed t := by
  obtain ⟨x, hx, rfl⟩ := List.mem_map.mp hw
  obtain ⟨k, -, hk⟩ := List.mem_filterMap.mp hx
  unfold State.haltCheckpoint at hk
  split at hk
  iterate 3
    obtain ⟨c, -, rfl⟩ := Option.map_eq_some_iff.mp hk
    exact nofun
  all_goals cases hk

theorem sound_checkpointForShutdown (r : Request) : Sound s (s.checkpointForShutdown r) :=
  sound_answerAfter s r fun _ hw => (List.mem_append.mp hw).imp id fun h => item_of_mem_haltWrites s h

theorem sound_checkpointForRestart (r : Request) : Sound s (s.checkpointForRestart r) :=
  sound_answerAfter s r fun _ hw => (List.mem_append.mp (List.nil_append _ ▸ hw)).imp id fun h => item_of_mem_haltWrites s h

theorem sound_ownRestart (r : Request) : Sound s (s.ownRestart r) := by
  unfold State.ownRestart
  split
  · exact (sound_stop s).trans (sound_checkpointForRestart _ r)
  · exact sound_checkpointForRestart s r

/-! ## Requests -/

theorem sound_ownConfigPart (r : Request) : Sound s (s.ownConfigPart r) := by
  have hstored (p : PartConfig) : Sound s (s.storePart p) :=
    .ite .untouched (.trans (t := s.withPart p) .untouched (.forStations sound_computeBand _))
  exact (hstored _).trans (sound_answer _ r _ _)

theorem sound_ownRevokeKey (r : Request) : Sound s (s.ownRevokeKey r) := by
  unfold State.ownRevokeKey
  simp only
  split
  iterate 3 exact sound_answer s r _ _
  · exact (sound_requestWrite s true (by simp)).trans (sound_await _ r)

theorem sound_ownReadLink (r : Request) : Sound s (s.ownReadLink r) :=
  .trans (.ite ((sound_withTally s _).trans (sound_endCondition _ _)) (.refl s)) (sound_answer _ r _ _)

theorem sound_ownTally (r : Request) : Sound s (s.ownTally r) := by
  unfold State.ownTally
  split
  · exact sound_answer s r _ _
  · exact (sound_commitActual s _).trans (sound_answer _ r _ _)

theorem sound_ownForget (r : Request) : Sound s (s.ownForget r) := by
  have hto {t : DepartedTable} (ht : TableInv s.departed → TableInv t) : Sound s (s.forgetTo r t) :=
    (sound_changeDeparted s true ht).trans (sound_await _ r)
  refine .ite (hto fun h => tableInv_empty h.2.fits) ?_
  split
  · exact hto (tableInv_remove _)
  · exact sound_answer s r _ _

theorem sound_ownGetEvents (r : Request) : Sound s (s.ownGetEvents r) := by
  unfold State.ownGetEvents
  simp only
  have hfetched (n : Nat) : Sound s (s.withEvents (s.events.fetched n)) :=
    .onEvents (queueInv_sublist (remainingEvents_sublist _ _))
  have hcleared (x : State) : Sound x (x.withEvents { x.events with lost := false }) := .onEvents (queueInv_congr rfl)
  exact ((hfetched _).trans (sound_formReply _ _ _ _ _ _)).trans (hcleared _)

theorem sound_ownSetMask (r : Request) : Sound s (s.ownSetMask r) :=
  .trans (t := s.withEvents { s.events with mask := readMask r.body }) (.onEvents (queueInv_congr (by exact rfl)))
    (sound_answer _ r _ _)

theorem sound_ownGetStation (r : Request) : Sound s (s.ownGetStation r) :=
  .trans (.modStation fun _ => ⟨id, id, id⟩) (sound_answer _ r _ _)

/-- A reserve below the debt moves the excess to dry overflow (R133). -/
theorem flows_lowerReserve (r : StationRec) (c : StationConfig) (input : Bool) (u : Nat) (hlow : c.swapReserve < r.meter.debt) :
    Flows r u ((r.configured c input).lowerReserve c.swapReserve) u where
  conserved h hlt := by
    have hsum := h hlt
    have hdry : satAdd Config.maxNl r.meter.dryOverflow (r.meter.debt - c.swapReserve) =
        r.meter.dryOverflow + (r.meter.debt - c.swapReserve) :=
      satAdd_of_le (show _ ≤ 4294967295 by have : r.meter.converted < 4294967295 := hlt; omega)
    simp only [StationRec.lowerReserve, StationRec.configured, hdry]
    omega
  fraction := id
  debt := by
    rintro ⟨-, hz⟩
    exact ⟨le_refl _, fun ha => absurd (hz ha) (by omega)⟩

/-- A reserve that is not below the debt leaves the volumes (R133). -/
theorem flows_configured (r : StationRec) (c : StationConfig) (input : Bool) (u : Nat) (hlow : ¬ c.swapReserve < r.meter.debt) :
    Flows r u (r.configured c input) u := by
  refine ⟨id, id, fun ⟨_, hz⟩ => ⟨?_, hz⟩⟩
  simp only [StationRec.configured]
  omega

theorem sound_configure (c : StationConfig) (input : Bool) :
    Sound s ((s.modStation i (StationRec.configured c input)).applyReserve i c.swapReserve) := by
  have hdebt : ((s.modStation i (StationRec.configured c input)).station i).meter.debt = (s.station i).meter.debt := by
    simp [StationRec.configured]
  unfold State.applyReserve
  simp only [hdebt]
  split_ifs with hlow hhigh
  · have hlowered : Sound s ((s.modStation i (StationRec.configured c input)).modStation i (StationRec.lowerReserve c.swapReserve)) := by
      refine .atStation i (fun j hj => ?_) (fun _ _ => rfl) ?_ id
      · rw [modStation_station_other hj, modStation_station_other hj]
      · simp only [modStation_station_same]
        exact flows_lowerReserve _ _ _ _ hlow
    exact hlowered.trans (sound_raiseCondition _ _ _)
  · exact .trans (.modStation fun u => flows_configured _ _ _ u hlow) (sound_endCondition _ _)
  · exact .modStation fun u => flows_configured _ _ _ u hlow

theorem sound_ownConfigStation (r : Request) : Sound s (s.ownConfigStation r) :=
  (sound_configure s _ _ _).trans (sound_answer _ r _ _)

theorem sound_requestWriteBack (c : JobClass) : Sound s (s.requestWriteBack i c) := .untouched

theorem sound_ownRelease (r : Request) : Sound s (s.ownRelease r) := by
  have hrelease (k : Station) : Sound s (s.release k) := by
    refine (sound_abandonContext s k).trans (.ite ?_ ?_)
    · exact (sound_moveStation _ k (StationRec.leave .departing) (fun _ => rfl) (fun _ => rfl) (by simp [StationRec.leave])).trans
        (sound_requestWriteBack _ k .depart)
    · exact sound_moveStation _ k _ (fun _ => rfl) (fun _ => rfl) (by simp [StationRec.leave])
  unfold State.ownRelease
  simp only
  split
  iterate 2 exact (hrelease _).trans (sound_answer _ r _ _)
  all_goals exact sound_answer s r _ _

theorem sound_ownAuthenticate (r : Request) : Sound s (s.ownAuthenticate r) := by
  have hagain (x : State) (k : Station) : Sound x (x.reidentify k) :=
    .ite (((sound_enterDeparted x k).trans .untouched).trans (sound_enterIdentifying (State.withdrawWriteBack _ k) k))
      (sound_enterIdentifying x k)
  unfold State.ownAuthenticate
  simp only
  split
  · exact .ite ((sound_startContext s _ _).trans (sound_answer _ r _ _)) (sound_answer s r _ _)
  iterate 2 exact (sound_answer s r _ _).trans (hagain _ _)
  all_goals exact sound_answer s r _ _

theorem sound_admitUnverified (c : CartridgeRecord) : Sound s (s.admitUnverified i c) := by
  have hsupplied : Sound s (s.supplyFigures i c) :=
    .ite (.refl s) ((sound_modCartridge s i _).trans (sound_computeBand _ i))
  have hdisowned (x : State) : Sound x (x.disown i c) := .ite ((sound_clearCheckpoint x i).trans .untouched) (.refl x)
  exact ((hsupplied.trans (hdisowned _)).trans (sound_modCartridge _ i _)).trans (sound_enterActive _ i)

theorem sound_ownAdmit (r : Request) : Sound s (s.ownAdmit r) := by
  unfold State.ownAdmit
  simp only
  split
  · unfold State.admitQuarantined
    split
    · exact sound_answer s r _ _
    · exact (sound_enterActive s _).trans (sound_answer _ r _ _)
    · exact (sound_admitUnverified s _ _).trans (sound_answer _ r _ _)
  · exact sound_answer s r _ _

theorem sound_queueHostJob (r : Request) (j : Job) : Sound s (s.queueHostJob r j) :=
  .ite (sound_answer s r _ _) ((sound_enqueue s j).trans (sound_answer _ r _ _))

theorem sound_ownTagRead (r : Request) : Sound s (s.ownTagRead r) :=
  .ite (sound_answer s r _ _) (.ite (sound_answer s r _ _) (sound_queueHostJob s r _))

theorem sound_ownTagWrite (r : Request) : Sound s (s.ownTagWrite r) :=
  .ite (sound_answer s r _ _) (.ite (sound_answer s r _ _) (sound_queueHostJob s r _))

theorem sound_ownGetJob (r : Request) : Sound s (s.ownGetJob r) := by
  unfold State.ownGetJob
  simp only
  split
  · exact (sound_withBus s _).trans (sound_answer _ r _ _)
  · split <;> exact sound_answer s r _ _

theorem sound_ownAbortJob (r : Request) : Sound s (s.ownAbortJob r) := by
  unfold State.ownAbortJob
  split
  · exact .trans (.ite (sound_withBus s _) (sound_endJob s _ _ _)) (sound_answer _ r _ _)
  · exact sound_answer s r _ _

theorem sound_ownSetVolumes (r : Request) : Sound s (s.ownSetVolumes r) :=
  (Sound.modStation (fun _ => ⟨id, id, id⟩)).trans (sound_endCondition _ _) |>.trans (sound_answer _ r _ _)

/-! ## Station rows and bus rows -/

theorem sound_tearDown : Sound s (s.tearDown i) := by
  have hremoved (x : State) : Sound x (x.removeCartridge i) := by
    unfold State.removeCartridge
    split
    iterate 3 exact sound_enterDeparted x i
    all_goals exact .refl x
  have hcleared (x : State) : Sound x (x.clearContext i) := .untouched rfl rfl rfl rfl rfl rfl rfl rfl
  have hvacated (x : State) : Sound x (x.modStation i StationRec.vacated) :=
    sound_moveStation x i _ (fun _ => rfl) (fun _ => rfl) (by simp [StationRec.vacated])
  exact (((((sound_removeJobs s i).trans (hcleared _)).trans (hremoved _)).trans (hvacated _))).trans (sound_raise _ _ _ _)

theorem sound_onTransaction {f : State → Job → State} (hf : ∀ j, Sound s (f s j)) : Sound s (s.onTransaction f) := by
  unfold State.onTransaction
  split
  · exact .ite (hf _) (.refl s)
  · exact .refl s

theorem sound_onStatus {f : State → Job → State} (hf : ∀ j, Sound s (f s j)) : Sound s (s.onStatus f) := by
  unfold State.onStatus
  split
  · exact .ite (hf _) (.refl s)
  · exact .refl s

theorem sound_freeBus : Sound s s.freeBus := sound_withBus s _

theorem sound_endTransaction (j : Job) (how : TransferEnd) : Sound s (s.endTransaction j how) := by
  have hfinish (data : List Byte) : Sound s (s.freeBus.finishJob j .done data) := (sound_freeBus s).trans (sound_finishJob _ j _ _)
  unfold State.endTransaction
  split
  · exact hfinish _
  iterate 3 exact .ite (hfinish _) (.refl s)
  iterate 3 exact (sound_freeBus s).trans (sound_failedAttempt _ j _)
  all_goals exact .refl s

theorem sound_pollResponse (j : Job) : Sound s (s.pollResponse j) :=
  .ite ((sound_freeBus s).trans (sound_withBus _ _)) ((sound_freeBus s).trans (sound_failedAttempt _ _ _))

theorem sound_endResponse (j : Job) (d : Option Digest) : Sound s (s.endResponse j d) := by
  cases d with
  | some d => exact (sound_freeBus s).trans (sound_finishJob _ j _ _)
  | none => exact (sound_freeBus s).trans (sound_failedAttempt _ j _)

theorem sound_endWritePhase (j : Job) (acknowledged : Bool) : Sound s (s.endWritePhase j acknowledged) :=
  .ite ((sound_freeBus s).trans (sound_withBus _ _)) ((sound_freeBus s).trans (sound_failedAttempt _ _ _))

theorem sound_pollStatus (j : Job) : Sound s (s.pollStatus j) :=
  .ite ((sound_freeBus s).trans (sound_withBus _ _)) ((sound_freeBus s).trans (sound_failedAttempt _ _ _))

theorem sound_endStatusWait (j : Job) : Sound s (s.endStatusWait j) := .ite (sound_openTransaction s _ _ _) (sound_withBus s _)

theorem sound_takeStatus (status : Byte) (j : Job) : Sound s (State.takeStatus status s j) :=
  .ite ((sound_freeBus s).trans (sound_finishJob _ j _ _)) (.ite ((sound_freeBus s).trans (sound_finishJob _ j _ _))
    ((sound_freeBus s).trans (sound_failedAttempt _ j _)))

theorem sound_cutJob (j : Job) : Sound s (s.cutJob j) := by
  unfold State.cutJob
  split
  · exact (sound_freeBus s).trans (sound_endJob _ j _ _)
  · exact .refl s

theorem sound_foreignStart : Sound s s.foreignStart := by
  unfold State.foreignStart
  split
  · exact .ite (sound_withBus s _) (.refl s)
  · exact sound_onTransaction s (sound_loseArbitration s)
  all_goals exact .refl s

theorem sound_idle : Sound s s.idle := .whenInService (.ite (sound_continueBetween s) (.refl s))

/-- What the command does with the ACTIVE job, where there is one. -/
theorem sound_activeJob {f : Job → State} (hf : ∀ j, Sound s (f j)) : Sound s (match s.bus.activeJob with
    | some j => f j
    | none => s) := by
  split
  · exact hf _
  · exact .refl s

/-! ## Every command -/

/-- Every command answers a next state, and keeps what an operation keeps. -/
theorem exec_sound (c : Instr) : ∃ t, exec c s = .next t ∧ Sound s t := by
  cases c with
  | powerOn => exact ⟨_, rfl, .ite (.refl s) (.ite (.trans (t := s.withPowered true) .untouched (sound_startUp _)) .untouched)⟩
  | powerLoss landed => exact ⟨_, rfl, .ite ((sound_goDown s landed).trans .untouched) (.refl s)⟩
  | resetNFall landed => exact ⟨_, rfl, .ite (.trans (t := if s.powered then s.goDown landed else s) (.ite (sound_goDown s landed) (.refl s)) .untouched) (.refl s)⟩
  | resetNRise => exact ⟨_, rfl, .ite (.refl s) (.ite (.trans (t := s.withResetN true) .untouched (sound_startUp _)) .untouched)⟩
  | hlFrameComplete => exact ⟨_, rfl, sound_onLink s bufferInv_settle⟩
  | gapTimerExpiry => exact ⟨_, rfl, sound_onLink s fun h => by rwa [BufferInv, gapExpires_slots]⟩
  | lineError => exact ⟨_, rfl, sound_onLink s fun h => by rw [BufferInv, HostLink.lineError, gapExpires_slots]; exact bufferInv_settle h⟩
  | takeRequest => exact ⟨_, rfl, .whenRunning (sound_takeRequest s)⟩
  | replySent => exact ⟨_, rfl, .whenRunning (sound_replySent s)⟩
  | identify => exact ⟨_, rfl, sound_serve s _ fun r => sound_answer s r _ _⟩
  | getStatus => exact ⟨_, rfl, sound_serve s _ fun r => sound_answer s r _ _⟩
  | configPart => exact ⟨_, rfl, sound_serve s _ (sound_ownConfigPart s)⟩
  | getStation => exact ⟨_, rfl, sound_serve s _ (sound_ownGetStation s)⟩
  | configStation => exact ⟨_, rfl, sound_serve s _ (sound_ownConfigStation s)⟩
  | release => exact ⟨_, rfl, sound_serve s _ (sound_ownRelease s)⟩
  | tagRead => exact ⟨_, rfl, sound_serve s _ (sound_ownTagRead s)⟩
  | tagWrite => exact ⟨_, rfl, sound_serve s _ (sound_ownTagWrite s)⟩
  | getJob => exact ⟨_, rfl, sound_serve s _ (sound_ownGetJob s)⟩
  | abortJob => exact ⟨_, rfl, sound_serve s _ (sound_ownAbortJob s)⟩
  | authenticate => exact ⟨_, rfl, sound_serve s _ (sound_ownAuthenticate s)⟩
  | admitCartridge => exact ⟨_, rfl, sound_serve s _ (sound_ownAdmit s)⟩
  | revokeKey => exact ⟨_, rfl, sound_serve s _ (sound_ownRevokeKey s)⟩
  | configLink => exact ⟨_, rfl, sound_serve s _ fun r => (sound_configureLink s _ _).trans (sound_answer _ r _ _)⟩
  | readLink => exact ⟨_, rfl, sound_serve s _ (sound_ownReadLink s)⟩
  | tally => exact ⟨_, rfl, sound_serve s _ (sound_ownTally s)⟩
  | setVolumes => exact ⟨_, rfl, sound_serve s _ (sound_ownSetVolumes s)⟩
  | listDeparted => exact ⟨_, rfl, sound_serve s _ fun r => sound_answer s r _ _⟩
  | forget => exact ⟨_, rfl, sound_serve s _ (sound_ownForget s)⟩
  | getEvents => exact ⟨_, rfl, sound_serve s _ (sound_ownGetEvents s)⟩
  | setMask => exact ⟨_, rfl, sound_serve s _ (sound_ownSetMask s)⟩
  | shutdown => exact ⟨_, rfl, sound_serve s _ fun r => (sound_stop s).trans (sound_checkpointForShutdown _ r)⟩
  | restart => exact ⟨_, rfl, sound_serve s _ (sound_ownRestart s)⟩
  | retainedStoreWriteComplete => exact ⟨_, rfl, .whenRunning (sound_completeWrite s)⟩
  | presenceAsserted k => exact ⟨_, rfl, sound_presenceRise s k⟩
  | presenceDeasserted k => exact ⟨_, rfl, sound_presenceFall s k⟩
  | presenceReasserted k => exact ⟨_, rfl, sound_presenceRise s k⟩
  | seatTimerExpiry k =>
    exact ⟨_, rfl, .whenInService (.ite ((sound_enterIdentifying s k).trans (sound_raise _ _ _ _)) (.refl s))⟩
  | removalTimerExpiry k => exact ⟨_, rfl, .whenInService (.ite (sound_tearDown s k) (.refl s))⟩
  | inkSenseChange k level =>
    exact ⟨_, rfl, .ite (.refl s) (.trans (t := s.withInkInputs (s.inkInputs.set k level)) .untouched
      (.whenInService (.ite (sound_modStation _ k (fun _ => rfl) (fun _ => rfl) fun _ => id) (.refl _))))⟩
  | inkSettleExpiry k => exact ⟨_, rfl, .whenInService (.ite (sound_settleInk s k) (.refl s))⟩
  | arbiterStartJob =>
    refine ⟨_, rfl, .whenInService (.ite ?_ (.refl s))⟩
    split
    · exact sound_startJob s _
    · exact .refl s
  | jobTransactionEnd how => exact ⟨_, rfl, .whenRunning (sound_onTransaction s fun j => sound_endTransaction s j how)⟩
  | responsePoll => exact ⟨_, rfl, .whenRunning (sound_onTransaction s fun j => .ite (sound_pollResponse s j) (.refl s))⟩
  | pollTimerExpiry h => exact ⟨_, rfl, .whenRunning (sound_withBus s _)⟩
  | retryTimerExpiry h => exact ⟨_, rfl, .whenRunning (sound_withBus s _)⟩
  | writePhaseEnd acknowledged =>
    exact ⟨_, rfl, .whenRunning (sound_onTransaction s fun j => .ite (sound_endWritePhase s j acknowledged) (.refl s))⟩
  | statusPoll => exact ⟨_, rfl, .whenRunning (sound_onStatus s (sound_pollStatus s))⟩
  | statusPollWaitExpiry => exact ⟨_, rfl, .whenRunning (sound_activeJob s fun j => .ite (sound_endStatusWait s j) (.refl s))⟩
  | statusRead status => exact ⟨_, rfl, .whenRunning (sound_onStatus s (sound_takeStatus s status))⟩
  | jobCutAtByteBoundary => exact ⟨_, rfl, .whenRunning (sound_onTransaction s (sound_cutJob s))⟩
  | arbitrationLost => exact ⟨_, rfl, .whenRunning (sound_activeJob s fun j => .ite (sound_loseArbitration s j) (.refl s))⟩
  | foreignStart => exact ⟨_, rfl, .whenRunning (sound_foreignStart s)⟩
  | stopCondition =>
    exact ⟨_, rfl, .whenInService (.ite (((sound_freeBus s).trans (sound_endCondition _ _)).trans (sound_continueBetween _)) (.refl s))⟩
  | foreignTimeout => exact ⟨_, rfl, .whenInService (.ite ((sound_withBus s _).trans (sound_raiseCondition _ _ _)) (.refl s))⟩
  | stuckBus =>
    refine ⟨_, rfl, .whenInService ?_⟩
    split
    iterate 3 exact sound_stuck s
    all_goals exact .refl s
  | recoveryEnd high => exact ⟨_, rfl, .whenRunning (.ite (sound_endRecovery s high) (.refl s))⟩
  | faultRetryExpiry high => exact ⟨_, rfl, .whenInService (.ite (sound_endRecovery s high) (.refl s))⟩
  | verifyComputationStart => exact ⟨_, rfl, .whenInService (sound_startVerify s)⟩
  | verifyCompletion => exact ⟨_, rfl, .whenInService (sound_completeVerify s)⟩
  | huntMatch => exact ⟨_, rfl, .whenInService (sound_withTally s _)⟩
  | candidateTest => exact ⟨_, rfl, .whenInService (sound_withTally s _)⟩
  | confirmTest => exact ⟨_, rfl, .whenInService (sound_confirmTest s)⟩
  | frameJudged => exact ⟨_, rfl, .whenInService (sound_judgeFrame s)⟩
  | framePositionComplete => exact ⟨_, rfl, .whenInService (sound_withTally s _)⟩
  | cycleEnd => exact ⟨_, rfl, .whenInService (sound_endCycle s)⟩
  | cycleTimerExpiry => exact ⟨_, rfl, .whenInService (sound_cycleTimerExpires s)⟩
  | silenceTimerExpiry => exact ⟨_, rfl, .whenInService (sound_silenceExpires s)⟩
  | cycleComputation => exact ⟨_, rfl, .whenRunning (sound_computeCycle s)⟩
  | wDelivery k => exact ⟨_, rfl, .whenRunning (sound_takeDelivery s k)⟩
  | tlcEdge rising tld => exact ⟨_, rfl, .whenInService (sound_takeEdge s rising tld)⟩
  | hlByteReceived byte =>
    exact ⟨_, rfl, sound_onLink s fun h => by rw [BufferInv, HostLink.receiveByte, meetByte_slots]; exact bufferInv_settle h⟩
  | responseReadEnd response =>
    exact ⟨_, rfl, .whenRunning (sound_onTransaction s fun j => .ite (sound_endResponse s j response) (.refl s))⟩

/-- A step with no command waiting lets the part go on by itself. -/
theorem step_of_idle {s : State} (hp : s.pending = []) : step s = .next s.idle := by rw [step, hp]

/-- A step runs the command at the front on the rest of the queue. -/
theorem step_of_command {s : State} {c : Instr} {rest : List Instr} (hp : s.pending = c :: rest) :
    step s = exec c (s.withPending rest) := by rw [step, hp]

/-- What a step leads to: idling, or a command run on the rest of the queue. -/
theorem goesTo_step {s t : State} (h : goesTo (step s) t) :
    (s.pending = [] ∧ t = s.idle) ∨ ∃ c rest, s.pending = c :: rest ∧ goesTo (exec c (s.withPending rest)) t := by
  cases hp : s.pending with
  | nil =>
    rw [goesTo, step_of_idle hp] at h
    exact .inl ⟨rfl, (Host.Outcome.next.inj h).symm⟩
  | cons c rest =>
    rw [step_of_command hp] at h
    exact .inr ⟨c, rest, rfl, h⟩

theorem goesTo_exec_sound {s t : State} {c : Instr} (h : goesTo (exec c s) t) : Sound s t := by
  obtain ⟨t', ht', hsound⟩ := exec_sound s c
  obtain rfl : t' = t := Host.Outcome.next.inj (ht'.symm.trans h)
  exact hsound

/-- Every step keeps what an operation keeps, but for the command that it takes from the queue. -/
theorem goesTo_step_sound {s t : State} (h : goesTo (step s) t) : ∃ rest, Sound (s.withPending rest) t := by
  rcases goesTo_step h with ⟨hp, rfl⟩ | ⟨c, rest, -, hexec⟩
  · refine ⟨s.pending, sound_idle s⟩
  · exact ⟨rest, goesTo_exec_sound hexec⟩

/-- Settles O2, by the soundness of every command. -/
theorem everyCommandRunsAndLeavesTheQueue : Obligations.EveryCommandRunsAndLeavesTheQueue := by
  intro c s
  obtain ⟨t, ht, hsound⟩ := exec_sound s c
  exact ⟨t, ht, hsound.pending⟩

/-- Settles O9, by the soundness of every step: only a completed write changes the stored slots, and it makes none but REVOKED. -/
theorem revokedSlotStaysRevoked : Obligations.RevokedSlotStaysRevoked := by
  intro s t h
  obtain ⟨rest, hsound⟩ := goesTo_step_sound h
  exact hsound.slots

/-- Settles O57, by the soundness of every step. -/
theorem stepsKeepTheQueuesAndTables : Obligations.StepsKeepTheQueuesAndTables := by
  intro s t h
  obtain ⟨rest, hsound⟩ := goesTo_step_sound h
  exact ⟨hsound.queue, hsound.tables, hsound.places⟩

/-- Settles O58, by the soundness of every step, station by station. -/
theorem stepsConserveTheVolume : Obligations.StepsConserveTheVolume := by
  intro s t h
  obtain ⟨rest, hsound⟩ := goesTo_step_sound h
  exact ⟨fun hs i => (hsound.volumes i).conserved (hs i), fun hs i => (hsound.volumes i).fraction (hs i),
    fun hs i => (hsound.volumes i).debt (hs i)⟩

end Sys2Proof.Laws
end

section
set_option Elab.async false
/-! PROOFS. What the guards of the commands answer in the words of the statements, and the numbers and flags that requests carry; the idle step
(O1) and the state after reset (O60). -/

namespace Sys2Proof.Laws

open Sys2Proof.Machine Sys2Proof.Safety

section
variable {s : State}

theorem running_of_up (h : up s) : s.running = true := by
  obtain ⟨hpower, hreset⟩ := h
  simp [State.running, hpower, hreset]

theorem inService_of_serving (h : serving s) : s.inService = true := by
  obtain ⟨hup, hop⟩ := h
  simp [State.inService, running_of_up hup, hop]

theorem serving_of_inService (h : s.inService = true) : serving s := by
  obtain ⟨⟨hpower, hreset⟩, hop⟩ : (s.powered = true ∧ s.resetN = true) ∧ s.operating = .operating := by
    simpa [State.inService, State.running] using h
  exact ⟨⟨hpower, hreset⟩, hop⟩

/-- A command that acts while the part runs, met by a part that is up. -/
theorem whenRunning_of_up (h : up s) (f : State → State) : s.whenRunning f = f s := if_pos (running_of_up h)

/-- A command that acts in OPERATING, met by a part that serves. -/
theorem whenInService_of_serving (h : serving s) (f : State → State) : s.whenInService f = f s := if_pos (inService_of_serving h)

/-- In HALTED the commands of the stopped blocks do nothing (R190). -/
theorem whenInService_of_halted (h : s.operating = .halted) (f : State → State) : s.whenInService f = s :=
  if_neg (by simp [State.inService, h])

end

/-- A host link field, in the word of the statements: a byte past the end counts 0. -/
theorem leField_eq_le (body : List Byte) (place n : Nat) : leField body place n = le body place n := by
  induction n generalizing place with
  | zero => simp [leField, byteSlice, leNumber, le]
  | succ n ih =>
    rw [le, ← ih, leField, leField, byteSlice, byteSlice]
    rcases Nat.lt_or_ge place body.length with hp | hp
    · rw [List.drop_eq_getElem_cons hp, List.take_succ_cons, leNumber, List.getD_eq_getElem _ _ hp]
    · rw [List.drop_eq_nil_of_le hp, List.drop_eq_nil_of_le (by omega), List.getD_eq_default _ _ hp]
      simp [leNumber]

/-- A byte of a body as a number. -/
theorem byteAt_toNat_eq_le (body : List Byte) (place : Nat) : (byteAt body place).toNat = le body place 1 := by
  simp [byteAt, le]

/-- A byte is below 256. -/
theorem le_one_lt (body : List Byte) (place : Nat) : le body place 1 < 256 := by
  rw [← byteAt_toNat_eq_le]
  exact (byteAt body place).isLt

/-- A flag in a field of flags. -/
theorem cond_eq_toNat (b : Bool) : cond b 1 0 = b.toNat := by cases b <;> rfl

/-- A field of flags, in the word of the statements. -/
theorem flagsField_eq_put (flags : List Bool) : flagsField flags = put 1 (flagsNumber flags) := oneByte_eq_put _

/-! ## The place of a job in the queue -/

section
variable {s : State} {pre post : List Job} {j : Job}

/-- Only the job itself changes where the jobs of its handle do. -/
theorem updateJob_of_queued (hq : queued s pre j post) (f : Job → Job) :
    s.bus.updateJob j.handle f = { s.bus with jobs := pre ++ f j :: post } := by
  obtain ⟨hjobs, hother⟩ := hq
  have hkept : ∀ xs : List Job, (∀ k ∈ xs, k.handle ≠ j.handle) →
      xs.map (fun k => if k.handle = j.handle then f k else k) = xs := fun xs hxs => by
    have hsame : ∀ k ∈ xs, (if k.handle = j.handle then f k else k) = k := fun k hk => if_neg (hxs k hk)
    rw [List.map_congr_left hsame, List.map_id']
  simp only [Bus.updateJob, hjobs, List.map_append, List.map_cons, if_true, hkept pre fun k hk => hother k (by simp [hk]),
    hkept post fun k hk => hother k (by simp [hk])]

/-- Only the job itself leaves the queue where the jobs of its handle do (R41). -/
theorem removeJob_of_queued (hq : queued s pre j post) : s.bus.removeJob j.handle = { s.bus with jobs := pre ++ post } := by
  obtain ⟨hjobs, hother⟩ := hq
  have hkept : ∀ xs : List Job, (∀ k ∈ xs, k.handle ≠ j.handle) → xs.filter (fun k => k.handle != j.handle) = xs := fun xs hxs =>
    List.filter_eq_self.mpr fun k hk => by simpa using hxs k hk
  simp [Bus.removeJob, hjobs, List.filter_append, hkept pre fun k hk => hother k (by simp [hk]),
    hkept post fun k hk => hother k (by simp [hk])]

/-- The ACTIVE job of a queue that has one (R42). -/
theorem activeJob_of_running {condition : BusCondition} (hr : running s condition pre j post) : s.bus.activeJob = some j := by
  obtain ⟨⟨hjobs, -⟩, hactive, -, -, hother⟩ := hr
  refine List.find?_eq_some_iff_append.mpr ⟨by simp [hactive], pre, post, hjobs, fun k hk => ?_⟩
  simpa using hother k (List.mem_append_left post hk)

theorem activeJob_mem (h : s.bus.activeJob = some j) : j ∈ s.bus.jobs ∧ j.state = .active :=
  ⟨List.mem_of_find?_eq_some h, by simpa using List.find?_some h⟩

end

/-! ## The idle step -/

/-- The bytes of a read: all but the last are acknowledged (R46). -/
theorem readElements_eq (n : Nat) : readElements (n + 1) = List.replicate n (.receive true) ++ [.receive false] := by
  induction n with
  | zero => rfl
  | succ n ih => rw [readElements, ih, List.replicate_succ, List.cons_append]

theorem readTransaction_eq_tagRead (i : Station) (offset n : Nat) :
    readTransaction (tagAddress i) offset (n + 1) = tagRead i offset (n + 1) := by
  simp [readTransaction, tagRead, readElements_eq, tagAddress, writeAddress, readAddress]

/-- The status phase reads the tag's status byte (R49). -/
theorem statusRead_eq_tagRead {j : Job} {i : Station} (ht : j.target = some i) : j.statusRead = tagRead i 36 1 := by
  rw [Job.statusRead, ht]
  exact readTransaction_eq_tagRead i 36 0

section
variable {s : State}

/-- With no job between its phases nothing goes on. -/
theorem continueBetween_of_none (h : ∀ j ∈ s.bus.jobs, j.state = .active → j.phase ≠ .between) : s.continueBetween = s := by
  unfold State.continueBetween
  cases ha : s.bus.activeJob with
  | none => rfl
  | some j =>
    obtain ⟨hmem, hactive⟩ := activeJob_mem ha
    exact if_neg (h j hmem hactive)

/-- A job between its phases opens its status phase (R49, R52). -/
theorem continueBetween_of_running {pre post : List Job} {j : Job} {i : Station} {condition : BusCondition}
    (hr : running s condition pre j post) (hphase : j.phase = .between) (ht : j.target = some i) :
    s.continueBetween = s.withBus { s.bus with
      jobs := pre ++ { j with phase := .status, timer := none } :: post, condition := .own,
      transaction := some ⟨s.part.busSpeed, tagRead i 36 1⟩ } := by
  simp only [State.continueBetween, activeJob_of_running hr, hphase, if_true, State.openStatus, State.openTransaction,
    updateJob_of_queued hr.1, statusRead_eq_tagRead ht]

theorem idle_of_not_serving (h : ¬ serving s) : s.idle = s := if_neg fun hi => h (serving_of_inService hi)

theorem idle_of_serving (h : serving s) : s.idle = if s.bus.condition = .free then s.continueBetween else s :=
  whenInService_of_serving h _

end

/-- Settles O1, by the branches of the idle step. -/
theorem stepRunsFrontCommand : Obligations.StepRunsFrontCommand := by
  refine fun s => ⟨fun c rest hp => step_of_command hp, fun hp => ⟨fun h => ?_, fun hs pre j post i hr hphase ht => ?_⟩⟩
  · have hidle : s.idle = s := by
      by_cases hs : serving s
      · rw [idle_of_serving hs]
        obtain hs' | hcondition | hphase := h
        · exact absurd hs hs'
        · exact if_neg hcondition
        · rw [continueBetween_of_none hphase, ite_self]
      · exact idle_of_not_serving hs
    rw [goesTo, step_of_idle hp, hidle]
  · have hcondition : s.bus.condition = .free := hr.2.2.2.1
    rw [goesTo, step_of_idle hp, idle_of_serving hs, if_pos hcondition, continueBetween_of_running hr hphase ht]

/-! ## The state after reset -/

theorem reset_station (i : Station) : State.reset.station i = StationRec.initial := by simp [State.station, State.reset]

theorem reset_context (i : Station) : State.reset.context i = none := by simp [State.context, State.reset, Auth.initial]

theorem reset_liveRequests : liveRequests State.reset = [] := rfl

theorem reset_underWay (i : Station) : underWay State.reset i = 0 := rfl

theorem tablesInv_reset : TablesInv State.reset := by
  intro t ht
  have hempty : t = ⟨[], 0⟩ := by
    obtain h | h | ⟨w, hw, -⟩ := ht
    · exact h
    · exact h
    · exact absurd hw (by simp [State.reset])
  subst hempty
  exact ⟨⟨by decide, .nil⟩, ⟨.nil, by simp, by decide⟩⟩

theorem stationInv_reset : StationInv State.reset := fun i => by
  simp [reset_station, reset_context, StationRec.initial]

theorem trustInv_reset : TrustInv State.reset where
  stations := stationInv_reset
  verifies := by simp [VerifyInv, reset_liveRequests]
  revocations := fun i k c id hl => by simp [reset_station, StationRec.initial] at hl

/-- Settles O60, by the start-up values. -/
theorem resetHasEveryInvariant : Obligations.ResetHasEveryInvariant :=
  ⟨⟨by decide, .nil, by simp [State.reset, EventQueue.initial]⟩, tablesInv_reset, ⟨by simp [BufferInv, State.reset, HostLink.initial], by
      simp [PendingInv, State.reset, MeterUnit.initial]⟩,
    fun i => by simp [reset_station, reset_underWay, StationRec.initial, Metering.initial],
    fun i => by simp [reset_station, StationRec.initial, Metering.initial, Config.vuPerNl],
    fun i => by simp [reset_station, StationRec.initial, Metering.initial], trustInv_reset⟩

end Sys2Proof.Laws
end

section
set_option Elab.async false
/-! PROOFS. The host link's receiver and buffer (R173 to R176): what a byte, a gap and a complete frame do (O12 to O15), and what the sending of a
reply frees (O17). -/

namespace Sys2Proof.Laws

open Sys2Proof.Machine Sys2Proof.Safety

/-! ## Complete frames -/

theorem lenInRange_iff (len : Byte) : lenInRange len = true ↔ 2 ≤ len.toNat ∧ len.toNat ≤ 242 := by
  simp [lenInRange]

section
variable {len : Byte} {rest : List Byte}

/-- A LEN out of range, or LEN + 2 bytes after it, completes a frame (R174). -/
theorem frameComplete_cons_iff : frameComplete (len :: rest) = true ↔
    len.toNat < 2 ∨ 242 < len.toNat ∨ rest.length = len.toNat + 2 := by
  rw [frameComplete, Bool.or_eq_true, Bool.not_eq_true', ← Bool.not_eq_true, lenInRange_iff, beq_iff_eq]
  omega

theorem frameComplete_of_incomplete (hlow : 2 ≤ len.toNat) (hhigh : len.toNat ≤ 242) (hlength : rest.length ≠ len.toNat + 2) :
    frameComplete (len :: rest) = false := by
  rw [← Bool.not_eq_true, frameComplete_cons_iff]
  omega

end

/-- The two bytes of a check as they are sent, the low one first. -/
theorem leField_check (before : List Byte) (lo hi : Byte) :
    BitVec.ofNat 16 (leField (before ++ [lo, hi]) before.length 2) = hi ++ lo := by
  have hfield : leField (before ++ [lo, hi]) before.length 2 = lo.toNat + 256 * hi.toNat := by
    simp [leField, byteSlice, leNumber]
  apply BitVec.eq_of_toNat_eq
  have hlo := lo.isLt
  have hhi := hi.isLt
  rw [hfield, BitVec.toNat_ofNat, BitVec.toNat_append, Nat.shiftLeft_eq, ← Nat.shiftLeft_eq, ← Nat.shiftLeft_add_eq_or_of_lt hlo,
    Nat.shiftLeft_eq]
  omega

/-- The frame of a LEN in range and the bytes that it counts (R174). -/
theorem readFrame_of_lengthed {len kind tag lo hi : Byte} {body : List Byte} (hhigh : len.toNat ≤ 242)
    (hlen : len.toNat = body.length + 2) : readFrame (len :: kind :: tag :: (body ++ [lo, hi])) =
      if hi ++ lo = crc16 (len :: kind :: tag :: body) then .wellFormed kind tag body else .badFrame := by
  have hrange : lenInRange len = true := (lenInRange_iff len).mpr ⟨by omega, hhigh⟩
  have hcounted : (kind :: tag :: (body ++ [lo, hi])).take len.toNat = kind :: tag :: body := by simp [hlen]
  have hcheck : BitVec.ofNat 16 (leField (kind :: tag :: (body ++ [lo, hi])) len.toNat 2) = hi ++ lo := by
    rw [hlen]
    exact leField_check (kind :: tag :: body) lo hi
  simp only [readFrame, hrange, hcounted, hcheck, Bool.true_and, beq_iff_eq, eq_comm (a := crc16 _)]
  rfl

theorem readFrame_of_badLength {len : Byte} {rest : List Byte} (h : len.toNat < 2 ∨ 242 < len.toNat) :
    readFrame (len :: rest) = .badFrame := by
  have hrange : lenInRange len = false := by
    rw [← Bool.not_eq_true, lenInRange_iff]
    omega
  simp [readFrame, hrange]

/-! ## The receiver's operations -/

section
variable {h : HostLink} {bytes : List Byte}

theorem settle_hunting (hr : h.receiver = .hunting) : h.settle = h := by simp only [HostLink.settle, hr]

theorem settle_incomplete (hr : h.receiver = .assembling bytes) (hc : frameComplete bytes = false) : h.settle = h := by
  simp [HostLink.settle, hr, hc]

theorem settle_complete (hr : h.receiver = .assembling bytes) (hc : frameComplete bytes = true) :
    h.settle = { h with receiver := .hunting }.acceptFrame (readFrame bytes) := by
  simp only [HostLink.settle, hr, hc, if_true]

theorem acceptFrame_receiver (h : HostLink) (f : RxFrame) : (h.acceptFrame f).receiver = h.receiver := by
  unfold HostLink.acceptFrame
  split <;> rfl

/-- What is settled once is settled. -/
theorem settle_settle (h : HostLink) : h.settle.settle = h.settle := by
  unfold HostLink.settle
  cases hr : h.receiver with
  | hunting => simp only [hr]
  | assembling bytes =>
    by_cases hc : frameComplete bytes = true
    · simp only [hc, if_true]
      rw [acceptFrame_receiver]
    · simp only [hc, if_false, hr, Bool.false_eq_true]

theorem receiveByte_hunting (hr : h.receiver = .hunting) (b : Byte) :
    h.receiveByte b = if b = 0xA5 then { h with receiver := .assembling [] } else h := by
  rw [HostLink.receiveByte, settle_hunting hr]
  simp only [HostLink.meetByte, hr]

theorem receiveByte_incomplete (hr : h.receiver = .assembling bytes) (hc : frameComplete bytes = false) (b : Byte) :
    h.receiveByte b = { h with receiver := .assembling (bytes ++ [b]) } := by
  rw [HostLink.receiveByte, settle_incomplete hr hc]
  simp only [HostLink.meetByte, hr]

theorem gapExpires_hunting (hr : h.receiver = .hunting) : h.gapExpires = h := by simp only [HostLink.gapExpires, hr]

theorem gapExpires_incomplete (hr : h.receiver = .assembling bytes) (hc : frameComplete bytes = false) :
    h.gapExpires = { h with receiver := .hunting } := by
  simp [HostLink.gapExpires, hr, hc]

end

/-! ## The commands -/

section
variable {s : State} (hs : up s)
include hs

theorem onLink_of_up (f : HostLink → HostLink) : s.onLink f = s.withLink (f s.link) := whenRunning_of_up hs _

theorem exec_hlByteReceived (b : Byte) : goesTo (exec (.hlByteReceived b) s) (s.withLink (s.link.receiveByte b)) :=
  congrArg Host.Outcome.next (onLink_of_up hs _)

theorem exec_hlFrameComplete : goesTo (exec .hlFrameComplete s) (s.withLink s.link.settle) :=
  congrArg Host.Outcome.next (onLink_of_up hs _)

theorem exec_gapTimerExpiry : goesTo (exec .gapTimerExpiry s) (s.withLink s.link.gapExpires) :=
  congrArg Host.Outcome.next (onLink_of_up hs _)

theorem exec_lineError : goesTo (exec .lineError s) (s.withLink s.link.settle.gapExpires) :=
  congrArg Host.Outcome.next (onLink_of_up hs _)

end

/-- Settles O12, by the receiver's state. -/
theorem receiverAssemblesBytes : Obligations.ReceiverAssemblesBytes := by
  intro s b hs
  have hexec := exec_hlByteReceived hs b
  refine ⟨fun hr hb => ?_, fun hr hb => ?_, fun hr => ?_, fun len rest hr hlow hhigh hlength => ?_, fun len rest hr hc => ?_⟩
  · rwa [receiveByte_hunting hr, if_neg hb] at hexec
  · rwa [receiveByte_hunting hr, if_pos hb] at hexec
  · rwa [receiveByte_incomplete hr rfl] at hexec
  · rwa [receiveByte_incomplete hr (frameComplete_of_incomplete hlow hhigh hlength)] at hexec
  · refine ⟨_, exec_hlFrameComplete hs, ?_⟩
    have hsettled : s.link.settle.receiveByte b = s.link.receiveByte b := by
      rw [HostLink.receiveByte, settle_settle, HostLink.receiveByte]
    have hnext : goesTo (exec (.hlByteReceived b) (s.withLink s.link.settle)) (s.withLink (s.link.settle.receiveByte b)) :=
      exec_hlByteReceived (s := s.withLink s.link.settle) hs b
    rw [hsettled] at hnext
    exact Eq.trans hexec hnext.symm

/-- A complete frame takes a slot or overruns (R176). -/
theorem exec_hlFrameComplete_of_complete {s : State} {bytes : List Byte} (hs : up s) (hr : s.link.receiver = .assembling bytes)
    (hc : frameComplete bytes = true) :
    (s.link.slots.length < 2 → goesTo (exec .hlFrameComplete s)
      (s.withLink { s.link with receiver := .hunting, slots := s.link.slots ++ [⟨readFrame bytes, false⟩] })) ∧
    (2 ≤ s.link.slots.length → goesTo (exec .hlFrameComplete s)
      (s.withLink { s.link with receiver := .hunting, overrun := true })) := by
  have hexec := exec_hlFrameComplete hs
  rw [settle_complete hr hc, HostLink.acceptFrame] at hexec
  refine ⟨fun hroom => ?_, fun hfull => ?_⟩
  · rwa [if_pos (show s.link.slots.length < Config.rxSlots from hroom)] at hexec
  · rwa [if_neg (show ¬ s.link.slots.length < Config.rxSlots from Nat.not_lt.mpr hfull)] at hexec

/-- Settles O13, by the ways a frame is complete. -/
theorem completeFrameTakesSlotOrOverruns : Obligations.CompleteFrameTakesSlotOrOverruns := by
  intro s len rest f hs hr
  refine ⟨fun ⟨hlow, hhigh, hlength⟩ => ?_, fun hframe => ?_⟩
  · have hexec := exec_hlFrameComplete hs
    rwa [settle_incomplete hr (frameComplete_of_incomplete hlow hhigh hlength)] at hexec
  · have hread : frameComplete (len :: rest) = true ∧ readFrame (len :: rest) = f := by
      obtain ⟨hlen, rfl⟩ | ⟨kind, tag, body, lo, hi, hlow, hhigh, hlen, rfl, rfl⟩ := hframe
      · exact ⟨frameComplete_cons_iff.mpr (by omega), readFrame_of_badLength hlen⟩
      · exact ⟨frameComplete_cons_iff.mpr (by simp [hlen]), readFrame_of_lengthed hhigh hlen⟩
    obtain ⟨hc, rfl⟩ := hread
    exact exec_hlFrameComplete_of_complete hs hr hc

/-! ## A frame byte by byte -/

/-- A receiver that assembles takes bytes until the frame is complete. -/
theorem runAll_bytes {rest : List Instr} (more : List Byte) {s : State} {bytes : List Byte} (hs : up s)
    (hr : s.link.receiver = .assembling bytes) (hc : ∀ n < more.length, frameComplete (bytes ++ more.take n) = false) :
    runAll (more.map .hlByteReceived ++ rest) s =
      runAll rest (s.withLink { s.link with receiver := .assembling (bytes ++ more) }) := by
  induction more generalizing s bytes with
  | nil => rw [List.append_nil, ← hr]; rfl
  | cons b more ih =>
    have hfirst : frameComplete bytes = false := by simpa using hc 0 (by simp)
    have hexec := exec_hlByteReceived hs b
    rw [receiveByte_incomplete hr hfirst] at hexec
    rw [List.map_cons, List.cons_append, runAll, hexec]
    refine (ih (s := s.withLink { s.link with receiver := .assembling (bytes ++ [b]) }) hs rfl fun n hn => ?_).trans ?_
    · simpa using hc (n + 1) (by simpa using hn)
    · simp [State.withLink]

/-- The bytes of a check, high and low, are the check. -/
theorem check_append (check : BitVec 16) : BitVec.ofNat 8 (check.toNat / 256) ++ BitVec.ofNat 8 check.toNat = check := by
  have h := leField_check [] (BitVec.ofNat 8 check.toNat) (BitVec.ofNat 8 (check.toNat / 256))
  rw [← h]
  apply BitVec.eq_of_toNat_eq
  have hcheck := check.isLt
  simp [leField, byteSlice, leNumber]
  omega

/-- Settles O14, by the bytes before the last, none of which completes the frame. -/
theorem requestFrameIsReadBack : Obligations.RequestFrameIsReadBack := by
  intro s kind tag body hs hr hroom hbody
  obtain ⟨len, hlen⟩ : ∃ len : Byte, len = BitVec.ofNat 8 (body.length + 2) := ⟨_, rfl⟩
  have hlength : len.toNat = body.length + 2 := by simp [hlen]; omega
  obtain ⟨check, hcheck⟩ : ∃ check, check = crc16 (len :: kind :: tag :: body) := ⟨_, rfl⟩
  obtain ⟨rest, hrest⟩ : ∃ rest, rest = kind :: tag :: (body ++ [BitVec.ofNat 8 check.toNat, BitVec.ofNat 8 (check.toNat / 256)]) :=
    ⟨_, rfl⟩
  have hbytes : requestFrameBytes kind tag body = 0xA5 :: len :: rest := by
    simp [requestFrameBytes, ← hlen, ← hcheck, hrest, leBytes]
  have hread : readFrame (len :: rest) = .wellFormed kind tag body := by
    rw [hrest, readFrame_of_lengthed (by omega) hlength, check_append, if_pos hcheck]
  have hcomplete : frameComplete (len :: rest) = true := frameComplete_cons_iff.mpr (by simp [hrest, hlength])
  have hpartial : ∀ n < (len :: rest).length, frameComplete ([] ++ (len :: rest).take n) = false := by
    intro n hn
    cases n with
    | zero => rfl
    | succ n =>
      refine frameComplete_of_incomplete (by omega) (by omega) ?_
      simp [hrest] at hn ⊢
      omega
  have hsync := exec_hlByteReceived hs 0xA5
  rw [receiveByte_hunting hr, if_pos rfl] at hsync
  rw [hbytes, List.map_cons, List.cons_append, runAll, hsync]
  have hrun := runAll_bytes (rest := [.hlFrameComplete]) (len :: rest)
    (s := s.withLink { s.link with receiver := .assembling [] }) hs rfl hpartial
  refine hrun.trans ?_
  have hlast := (exec_hlFrameComplete_of_complete (s := s.withLink { s.link with receiver := .assembling (len :: rest) })
    hs rfl hcomplete).1 hroom
  rw [hread] at hlast
  simp only [runAll, List.nil_append, State.withLink] at hlast ⊢
  rw [hlast, ← hr]

/-- Settles O15, by the receiver's state. -/
theorem partialFrameIsDiscarded : Obligations.PartialFrameIsDiscarded := by
  intro s c hs hc
  have hdiscard : ∀ bytes, s.link.receiver = .assembling bytes → frameComplete bytes = false →
      goesTo (exec c s) (s.withLink { s.link with receiver := .hunting }) := by
    intro bytes hr hincomplete
    obtain rfl | rfl := hc
    · have hexec := exec_gapTimerExpiry hs
      rwa [gapExpires_incomplete hr hincomplete] at hexec
    · have hexec := exec_lineError hs
      rwa [settle_incomplete hr hincomplete, gapExpires_incomplete hr hincomplete] at hexec
  refine ⟨fun hr => ?_, fun hr => hdiscard [] hr rfl, fun len rest hr hlow hhigh hlength =>
    hdiscard _ hr (frameComplete_of_incomplete hlow hhigh hlength)⟩
  obtain rfl | rfl := hc
  · have hexec := exec_gapTimerExpiry hs
    rwa [gapExpires_hunting hr] at hexec
  · have hexec := exec_lineError hs
    rwa [settle_hunting hr, gapExpires_hunting hr] at hexec

/-! ## The sending of a reply -/

section
variable {s : State}

theorem exec_replySent (hs : up s) : goesTo (exec .replySent s) s.replySent := congrArg Host.Outcome.next (whenRunning_of_up hs _)

theorem replySent_of_none (h : s.link.replies = []) : s.replySent = s := by simp only [State.replySent, h]

/-- A reply that is not RESTART's last one frees its slot and nothing else (R176). -/
theorem replySent_of_cons {r : Reply} {replies : List Reply} (h : s.link.replies = r :: replies)
    (hgoes : s.link.engine ≠ .stopped ∨ replies ≠ []) :
    s.replySent = s.withLink { s.link with replies, slots := s.link.slots.eraseP (·.taken) } := by
  simp only [State.replySent, h]
  split
  · next hstopped => exact absurd hgoes (by simpa using hstopped)
  · rfl

end

/-- Settles O17, by the replies that wait to be sent. -/
theorem sentReplyFreesItsSlot : Obligations.SentReplyFreesItsSlot := by
  intro s r replies x slots hs
  have hexec := exec_replySent hs
  refine ⟨fun h => ?_, fun h hslots htaken hgoes => ?_⟩
  · rwa [replySent_of_none h] at hexec
  · rwa [replySent_of_cons h hgoes, hslots, List.eraseP_cons_of_pos htaken] at hexec

end Sys2Proof.Laws
end

section
set_option Elab.async false
/-! PROOFS. The judging of a request (O16) and the requests that name no station: REVOKE_KEY (O20), CONFIG_LINK (O21), READ_LINK (O22), TALLY (O23),
LIST_DEPARTED and FORGET (O24) and SET_MASK (O26). -/

namespace Sys2Proof.Laws

open Sys2Proof.Machine Sys2Proof.Safety

/-- The answer of an owner, with the reply's kind by the request's code (R178). -/
theorem answer_eq (s : State) (kind : RequestKind) (tag : Byte) (body : List Byte) (status : Status) (reply : List Byte) :
    s.answer ⟨kind, tag, body⟩ status reply = replied s (BitVec.ofNat 8 (0x80 + requestCode kind)) tag status reply := by
  rw [answer_eq_replied, replyKind_code]

/-! ## The judging of a frame -/

/-- The oldest frame not yet taken (R177). -/
theorem takeSlot_append {taken : List RxSlot} (h : ∀ x ∈ taken, x.taken = true) (f : RxFrame) (waiting : List RxSlot) :
    takeSlot (taken ++ ⟨f, false⟩ :: waiting) = some (f, taken ++ ⟨f, true⟩ :: waiting) := by
  induction taken with
  | nil => simp [takeSlot]
  | cons x taken ih => simp [takeSlot, h x (by simp), ih fun y hy => h y (by simp [hy])]

theorem takeSlot_of_taken {taken : List RxSlot} (h : ∀ x ∈ taken, x.taken = true) : takeSlot taken = none := by
  induction taken with
  | nil => rfl
  | cons x taken ih => simp [takeSlot, h x (by simp), ih fun y hy => h y (by simp [hy])]

/-- A code names the kind that has it (section 10.6). -/
theorem requestOfCode_requestCode (k : RequestKind) : requestOfCode (requestCode k) = some k := by
  cases k <;> decide

theorem requestOfCode_eq_none {code : Nat} (h : code = 0 ∨ 24 ≤ code) : requestOfCode code = none := by
  refine List.find?_eq_none.mpr fun k _ => ?_
  have hcode : 1 ≤ requestCode k ∧ requestCode k ≤ 23 := by cases k <;> decide
  simp only [beq_iff_eq]
  omega

theorem servedInHalted_iff (k : RequestKind) :
    servedInHalted k = true ↔ k = .identify ∨ k = .getStatus ∨ k = .getEvents ∨ k = .restart := by
  cases k <;> decide

section
variable {halted : Bool} {kind tag : Byte} {body : List Byte} {k : RequestKind}

theorem judge_unknownKind (h : kind = 0 ∨ 24 ≤ kind.toNat) :
    judge halted (.wellFormed kind tag body) = .answered (replyKind kind) tag .unknownKind := by
  have hcode : kind.toNat = 0 ∨ 24 ≤ kind.toNat := h.imp_left fun h0 => by rw [h0]; rfl
  simp only [judge, requestOfCode_eq_none hcode]

theorem judge_station (hstation : namesStation k = false ∨ ∃ b rest, body = b :: rest ∧ b.toNat < 8) : (namesStation k && decide (7 < (byteAt body 0).toNat)) = false := by
  obtain hnames | ⟨b, rest, hbody, hb⟩ := hstation
  · simp [hnames]
  · have h7 : (byteAt body 0).toNat ≤ 7 := by simp [hbody, byteAt]; omega
    simp [h7]

variable (hk : requestCode k = kind.toNat)
include hk

theorem judge_badLength (hlength : bodyLengthOk k body.length = false) :
    judge halted (.wellFormed kind tag body) = .answered (replyKind kind) tag .badLength := by
  simp [judge, ← hk, requestOfCode_requestCode, hlength]

variable (hlength : bodyLengthOk k body.length = true)
include hlength

theorem judge_badStation {b : Byte} {rest : List Byte} (hnames : namesStation k = true) (hbody : body = b :: rest) (hb : 8 ≤ b.toNat) :
    judge halted (.wellFormed kind tag body) = .answered (replyKind kind) tag .badStation := by
  have hstation : 7 < (byteAt body 0).toNat := by simp [hbody, byteAt]; omega
  simp [judge, ← hk, requestOfCode_requestCode, hlength, hnames, hstation]

variable (hstation : namesStation k = false ∨ ∃ b rest, body = b :: rest ∧ b.toNat < 8)
include hstation

theorem judge_halted (hserved : servedInHalted k = false) :
    judge true (.wellFormed kind tag body) = .answered (replyKind kind) tag .halted := by
  simp only [judge, ← hk, requestOfCode_requestCode, hlength, judge_station hstation, hserved]
  rfl

theorem judge_handed (hserved : halted = false ∨ servedInHalted k = true) :
    judge halted (.wellFormed kind tag body) = .handed ⟨k, tag, body⟩ := by
  have hheld : (halted && !servedInHalted k) = false := by
    obtain h | h := hserved <;> simp [h]
  simp only [judge, ← hk, requestOfCode_requestCode, hlength, judge_station hstation, hheld]
  rfl

end

section
variable {s : State} (hs : up s)
include hs

theorem exec_takeRequest : goesTo (exec .takeRequest s) s.takeRequest := congrArg Host.Outcome.next (whenRunning_of_up hs _)

end

section
variable {s : State} {taken waiting : List RxSlot} {f : RxFrame}

theorem takeRequest_of_not_ready (h : s.link.engine ≠ .ready) : s.takeRequest = s := by
  unfold State.takeRequest
  split
  · next hready _ => exact absurd hready h
  · rfl

theorem takeRequest_of_none (h : takeSlot s.link.slots = none) : s.takeRequest = s := by
  unfold State.takeRequest
  rw [h]
  split
  · next hsome => exact absurd hsome (by simp)
  · rfl

variable (hs : up s) (htaken : ∀ x ∈ taken, x.taken = true) (hready : s.link.engine = .ready)
  (hslots : s.link.slots = taken ++ ⟨f, false⟩ :: waiting)
include hs htaken hready hslots

/-- A frame that the engine answers itself (R177). -/
theorem exec_takeRequest_answered {kind tag : Byte} {status : Status} (hj : judge s.isHalted f = .answered kind tag status) :
    goesTo (exec .takeRequest s)
      (replied (s.withLink { s.link with slots := taken ++ ⟨f, true⟩ :: waiting }) kind tag status []) := by
  have hexec := exec_takeRequest hs
  simp only [State.takeRequest, hready, hslots, takeSlot_append htaken, hj, formReply_eq_repliedWith] at hexec
  exact hexec

/-- A frame that is handed to its owner (R177 step 6). -/
theorem exec_takeRequest_handed {r : Request} (hj : judge s.isHalted f = .handed r) :
    goesTo (exec .takeRequest s) (s.withLink { s.link with slots := taken ++ ⟨f, true⟩ :: waiting, engine := .handed r }) := by
  have hexec := exec_takeRequest hs
  simp only [State.takeRequest, hready, hslots, takeSlot_append htaken, hj] at hexec
  exact hexec

end

/-- Settles O16, by the judgement of each frame. -/
theorem requestsAreJudgedInOrder : Obligations.RequestsAreJudgedInOrder := by
  intro s taken waiting f hs htaken
  refine ⟨fun h => ?_, fun hready hslots => ⟨fun hf => ?_, ?_⟩⟩
  · have hexec := exec_takeRequest hs
    obtain hengine | hslots := h
    · rwa [takeRequest_of_not_ready hengine] at hexec
    · rwa [takeRequest_of_none (hslots ▸ takeSlot_of_taken htaken)] at hexec
  · subst hf
    exact exec_takeRequest_answered hs htaken hready hslots rfl
  · rintro kind tag body rfl
    have answered := fun status => exec_takeRequest_answered (kind := kind ||| 0x80) (tag := tag) (status := status)
      hs htaken hready hslots
    refine ⟨fun h => answered _ (judge_unknownKind h), fun k hk => ⟨fun hlength => answered _ (judge_badLength hk hlength),
      fun hlength => ⟨fun b rest hnames hbody hb => answered _ (judge_badStation hk hlength hnames hbody hb), fun hstation => ⟨?_, ?_⟩⟩⟩⟩
    · intro hhalted h1 h2 h3 h4
      have hserved : servedInHalted k = false := by
        rw [← Bool.not_eq_true, servedInHalted_iff]
        simp [h1, h2, h3, h4]
      refine answered _ ?_
      rw [show s.isHalted = true by simp [State.isHalted, hhalted]]
      exact judge_halted hk hlength hstation hserved
    · intro hserved
      refine exec_takeRequest_handed hs htaken hready hslots (judge_handed hk hlength hstation ?_)
      exact hserved.imp (fun hop => by simp [State.isHalted, hop]) (servedInHalted_iff k).mpr

/-! ## REVOKE_KEY -/

section
variable {s : State}

theorem keyState_of_le {n : Nat} (h : 4 ≤ n) : s.keyState n = none := dif_neg (by omega)

theorem keyState_val (k : KeySlot) : s.keyState k.val = some (s.store.keySlots[k]).state := dif_pos k.isLt

end

/-- Settles O20, by the slot's state. -/
theorem revokeKeyActsBySlotState : Obligations.RevokeKeyActsBySlotState := by
  intro s tag b rest hh
  have hexec : goesTo (exec .revokeKey s) (s.ownRevokeKey ⟨.revokeKey, tag, b :: rest⟩) :=
    congrArg Host.Outcome.next (serve_of_handed hh State.ownRevokeKey)
  simp only [State.ownRevokeKey, byteAt, List.getD_cons_zero, answer_eq] at hexec
  refine ⟨fun hb => ?_, fun k hk => ?_⟩
  · rw [keyState_of_le hb] at hexec
    exact hexec
  · rw [hk, keyState_val] at hexec
    refine ⟨fun hstate => ?_, fun hstate => ?_, fun hstate => ?_⟩ <;> simp only [hstate] at hexec
    · exact hexec
    · exact hexec
    · rw [show Fin.ofNat 4 k.val = k from Fin.ofNat_eq_cast 4 k.val ▸ Fin.cast_val_eq_self k] at hexec
      exact hexec

/-! ## CONFIG_LINK -/

theorem readSource_eq (body : List Byte) : readSource body = if le body 0 1 = 1 then .host else .link := by
  simp only [readSource, byteAt_toNat_eq_le]

theorem readLinkConfig_eq (body : List Byte) : readLinkConfig body =
    ⟨within 100 65535 (le body 1 2), within 3 4 (le body 3 1), le body 4 1, if le body 5 1 < 9 then 8 else 10⟩ := by
  simp only [readLinkConfig, byteAt_toNat_eq_le, leField_eq_le, clampTo_eq_within (show 100 ≤ 65535 by decide),
    clampTo_eq_within (show 3 ≤ 4 by decide)]

theorem linkConfigBody_eq (source : TallySource) (c : LinkConfig) : linkConfigBody source c =
    put 1 (if source = .host then 1 else 0) ++ put 2 c.nominalPeriod ++ put 1 c.lossThreshold ++ put 1 c.holdLimit
      ++ put 1 c.counterWidth := by
  cases source <;> simp [linkConfigBody, oneByte_eq_put, leBytes_eq_put, sourceCode]

/-- The counters held to a narrower width (R100). -/
theorem narrowErrors_eq {s t : State} (hmarker : t.tally.markerErrors = s.tally.markerErrors)
    (hcheck : t.tally.checkErrors = s.tally.checkErrors) : t.narrowMarkerErrors.narrowCheckErrors =
      let x := if 255 < s.tally.markerErrors
        then (t.withTally { t.tally with markerErrors := 255 }).raiseCondition .linkErrors 1 else t
      if 255 < s.tally.checkErrors then (x.withTally { x.tally with checkErrors := 255 }).raiseCondition .linkErrors 2 else x := by
  have hkept : t.narrowMarkerErrors.tally.checkErrors = s.tally.checkErrors := by
    rw [← hcheck, State.narrowMarkerErrors]
    split <;> rfl
  rw [State.narrowCheckErrors, hkept, State.narrowMarkerErrors, hmarker]

/-- CONFIG_LINK by what its source and alignment step does: the values, the counters under the new width, and the reply. -/
theorem exec_configLink {s t : State} {tag : Byte} {body : List Byte} {source : TallySource} {c : LinkConfig}
    (hh : handed s .configLink tag body) (hsource : readSource body = source) (hc : readLinkConfig body = c)
    (ht : (s.withTally { s.tally with config := c }).applySource source s.tally.config = t) (htally : t.tally.config = c) :
    goesTo (exec .configLink s) (replied
      (if s.tally.config.counterWidth = 10 ∧ c.counterWidth = 8 then t.narrowMarkerErrors.narrowCheckErrors else t) 0x8E tag .ok
      (put 1 (if source = .host then 1 else 0) ++ put 2 c.nominalPeriod ++ put 1 c.lossThreshold ++ put 1 c.holdLimit
        ++ put 1 c.counterWidth)) := by
  have hexec : goesTo (exec .configLink s) (s.ownConfigLink ⟨.configLink, tag, body⟩) :=
    congrArg Host.Outcome.next (serve_of_handed hh State.ownConfigLink)
  simp only [State.ownConfigLink, answer_eq, hc, hsource, linkConfigBody_eq, State.configureLink, State.applyWidth, ht, htally] at hexec
  exact hexec

/-- Settles O21, by the old and the new source. -/
theorem configLinkChangesSourceAndAlignment : Obligations.ConfigLinkChangesSourceAndAlignment := by
  intro s tag body source c hh hsource hperiod hthreshold hlimit hwidth narrowed done
  have hconfig : readLinkConfig body = c := by rw [readLinkConfig_eq, ← hperiod, ← hthreshold, ← hlimit, ← hwidth]
  have hdone : ∀ t, (s.withTally { s.tally with config := c }).applySource source s.tally.config = t → t.tally.config = c →
      t.tally.markerErrors = s.tally.markerErrors → t.tally.checkErrors = s.tally.checkErrors → done t := by
    intro t ht htally hmarker hcheck
    have hexec := exec_configLink hh ((readSource_eq body).trans hsource.symm) hconfig ht htally
    rwa [narrowErrors_eq hmarker hcheck] at hexec
  refine ⟨fun hold hnew => ?_, fun hold hnew => ?_, fun hold hnew hchange => ?_, fun hsame hkept => ?_⟩
  · subst hnew
    refine hdone _ ?_ (by simp) (by simp) (by simp)
    simp only [State.applySource, State.withTally_tally, hold]
    rfl
  · subst hnew
    refine hdone _ ?_ rfl rfl rfl
    simp only [State.applySource, State.withTally_tally, hold]
    rfl
  · subst hnew
    refine hdone _ ?_ rfl rfl rfl
    simp only [State.applySource, State.withTally_tally, hold, if_neg (not_and_or.mpr hchange)]
    simp only [Tally.restartAlignment, Tally.restartCycleTimer]
    rfl
  · refine hdone _ ?_ rfl rfl rfl
    cases source with
    | host => simp only [State.applySource, State.withTally_tally, hsame]
    | link => simp only [State.applySource, State.withTally_tally, hsame, if_pos (hkept.resolve_left (by decide))]

/-! ## READ_LINK -/

/-- READ_LINK's body, in the words of the statement (section 12.4). -/
theorem readLinkBody_eq_put (s : State) : readLinkBody s =
    put 1 (sourceCode s.tally.source) ++ put 1 (alignerCode s.tally.aligner)
      ++ put 1 (match s.tally.aligner with | .sync expected _ => expected.val | _ => 255)
      ++ put 1 (match s.tally.aligner, s.tally.buffer with | .sync _ _, some x => x.positions | _, _ => 255)
      ++ put 2 s.tally.markerErrors ++ put 2 s.tally.checkErrors ++ put 1 s.tally.badRun ++ put 1 s.tally.checkRun
      ++ put 1 s.tally.estimateRun ++ put 4 s.tally.estimatedTotal
      ++ put 1 ((s.standing[24]).isSome.toNat + 2 * (s.standing[28]).isSome.toNat + 4 * (s.standing[25]).isSome.toNat
        + 8 * (s.standing[29]).isSome.toNat)
      ++ put 2 s.tally.config.nominalPeriod ++ put 1 s.tally.config.lossThreshold ++ put 1 s.tally.config.holdLimit
      ++ put 1 s.tally.config.counterWidth := by
  have hflags (a b c d : Bool) : flagsNumber [a, b, c, d] = a.toNat + 2 * b.toNat + 4 * c.toNat + 8 * d.toNat := by
    simp only [flagsNumber, cond_eq_toNat]
    omega
  simp only [readLinkBody, oneByte_eq_put, leBytes_eq_put, flagsField_eq_put, hflags]
  cases s.tally.aligner <;> rfl

/-- Settles O22, by the clear option. -/
theorem readLinkReportsThenClears : Obligations.ReadLinkReportsThenClears := by
  intro s tag b rest hh
  have hexec : goesTo (exec .readLink s) (s.ownReadLink ⟨.readLink, tag, b :: rest⟩) :=
    congrArg Host.Outcome.next (serve_of_handed hh State.ownReadLink)
  simp only [State.ownReadLink, answer_eq, readClearOption, byteAt, List.getD_cons_zero, readLinkBody_eq_put] at hexec
  refine ⟨fun hclear => ?_, fun hclear => ?_⟩
  · rw [hclear, if_neg (by decide)] at hexec
    exact hexec
  · rw [hclear, if_pos rfl] at hexec
    exact hexec

/-! ## TALLY -/

theorem perStation_getElem {α : Type} (f : Station → α) (i : Station) : (perStation f)[i] = f i := by
  fin_cases i <;> rfl

theorem vector_eq_perStation {α : Type} {v : Vector α 8} {f : Station → α} (h : ∀ i : Station, v[i] = f i) : perStation f = v := by
  ext k hk
  exact (perStation_getElem f ⟨k, hk⟩).trans (h ⟨k, hk⟩).symm

/-- A count of drops (R104). -/
theorem clampTo_zero (high x : Nat) : clampTo 0 high x = min high x := by
  rw [clampTo_eq_within (Nat.zero_le _), within, Nat.zero_max]

/-- A temperature byte (R85). -/
theorem readTemp_eq (body : List Byte) (place : Nat) : readTemp (byteAt body place) =
    if le body place 1 = 255 then .sensorFault else .degrees (min 200 (le body place 1)) := by
  have hbyte := le_one_lt body place
  rw [readTemp, byteAt_toNat_eq_le]
  by_cases h200 : le body place 1 ≤ 200
  · rw [if_pos h200, if_neg (by omega), Nat.min_eq_right h200]
  · rw [if_neg h200]
    by_cases h254 : le body place 1 ≤ 254
    · rw [if_pos h254, if_neg (by omega), Nat.min_eq_left (by omega)]
    · rw [if_neg h254, if_pos (by omega)]

theorem tallyCounts_eq (body : List Byte) (i : Station) : tallyCounts body i =
    ⟨min 8184 (le body (9 * i.val) 2), min 8184 (le body (9 * i.val + 2) 2), min 8184 (le body (9 * i.val + 4) 2),
      min 8184 (le body (9 * i.val + 6) 2)⟩ := by
  simp only [tallyCounts, clampTo_zero, leField_eq_le, maxCount]
  rfl

/-- A cycle handed on, in the word of the statements (R99, R110). -/
theorem handOn_eq (s : State) (c : CommittedCycle) : s.handOn c = s.withMeter (handedOn s.meter c) := by
  rw [State.handOn, handedOn, apply_ite s.withMeter]
  rfl

theorem handedOn_eq (m : MeterUnit) (c : CommittedCycle) :
    handedOn m c = { m with cycles := if m.cycles.length < 2 then m.cycles ++ [c] else m.cycles } := by
  rw [handedOn]
  split_ifs <;> rfl

/-- The receiver's part of an actual commit under HOST: the cycle timer stays stopped (R95, R104). -/
theorem afterActual_of_host {t : Tally} (h : t.source = .host) (counts : Vector Drops 8) :
    t.afterActual counts = { t with lastGood := counts, estimateRun := 0, cycleTimer := none } := by
  cases t
  cases h
  rfl

/-- Settles O23, by the source. -/
theorem tallyCommitsUnderHost : Obligations.TallyCommitsUnderHost := by
  intro s tag body cycle temps hh htemps hfields
  have hexec : goesTo (exec .tally s) (s.ownTally ⟨.tally, tag, body⟩) :=
    congrArg Host.Outcome.next (serve_of_handed hh State.ownTally)
  have hcycle : readTally body = cycle := by
    obtain ⟨counts, temps'⟩ := cycle
    simp only at htemps hfields
    subst htemps
    have hcounts : perStation (tallyCounts body) = counts :=
      vector_eq_perStation fun i => (hfields i).1.trans (tallyCounts_eq body i).symm
    have hread : perStation (fun i => readTemp (byteAt body (9 * i.val + 8))) = temps :=
      vector_eq_perStation fun i => (hfields i).2.trans (readTemp_eq body _).symm
    rw [readTally, hcounts, hread]
  rw [State.ownTally, answer_eq, answer_eq, hcycle] at hexec
  refine ⟨fun hsource => ?_, fun hsource => ?_⟩ <;> rw [hsource] at hexec
  · exact hexec
  · rw [State.commitActual, handOn_eq, handedOn_eq, State.withMeter_tally, afterActual_of_host hsource] at hexec
    exact hexec

/-! ## LIST_DEPARTED and FORGET -/

/-- A departed entry's bytes, in the words of the statement (section 12.6). -/
theorem departedEntryBytes_eq_put (e : DepartedEntry) : departedEntryBytes e =
    put 8 e.serial.toNat ++ put 2 e.inkType ++ put 4 e.capacity ++ put 4 e.used ++ put 4 e.lastWritten
      ++ put 1 (match e.cls with | .genuine => 1 | .refilled => 2)
      ++ put 1 (e.evidence.rollback.toNat + 2 * e.evidence.emptyReturn.toNat + 4 * e.evidence.marked.toNat
          + 8 * e.evidence.overdraw.toNat + 16 * e.evidence.senseRise.toNat + 32 * e.evidence.conflict.toNat)
      ++ put 4 e.sequence ++ put 1 e.station.val := by
  have hflags (a b c d x y : Bool) : flagsNumber [a, b, c, d, x, y] =
      a.toNat + 2 * b.toNat + 4 * c.toNat + 8 * d.toNat + 16 * x.toNat + 32 * y.toNat := by
    simp only [flagsNumber, cond_eq_toNat]
    omega
  simp only [departedEntryBytes, oneByte_eq_put, leBytes_eq_put, evidenceByte, hflags]
  cases e.cls <;> rfl

/-- A field of the bytes after the first. -/
theorem le_cons (b : Byte) (rest : List Byte) (place n : Nat) : le (b :: rest) (place + 1) n = le rest place n := by
  induction n generalizing place with
  | zero => rfl
  | succ n ih => rw [le, le, ih, List.getD_cons_succ]

theorem readForgetSerial_eq {b : Byte} {rest : List Byte} {x : Serial} (hx : x.toNat = le rest 0 8) :
    readForgetSerial (b :: rest) = x := by
  rw [readForgetSerial, leField_eq_le, le_cons, ← hx, BitVec.ofNat_toNat, BitVec.setWidth_eq]

theorem readForgetAll_eq (b : Byte) (rest : List Byte) : readForgetAll (b :: rest) = decide (b = 1) := by
  simp only [readForgetAll, byteAt, List.getD_cons_zero, BitVec.toNat_eq, Bool.beq_eq_decide_eq]
  rfl

section
variable {t : DepartedTable} {x : Serial}

theorem lookup_isSome (h : ∃ e ∈ t.entries, e.serial = x) : ∃ e, t.lookup x = some e := by
  obtain ⟨e, he, hx⟩ := h
  exact Option.isSome_iff_exists.mp (List.find?_isSome.mpr ⟨e, he, by simpa using hx⟩)

theorem lookup_eq_none (h : ∀ e ∈ t.entries, e.serial ≠ x) : t.lookup x = none :=
  List.find?_eq_none.mpr fun e he => by simpa using h e he

theorem remove_eq (t : DepartedTable) (x : Serial) :
    t.remove x = { t with entries := t.entries.filter (fun e => e.serial ≠ x) } := by
  have hkept : (fun e : DepartedEntry => e.serial != x) = fun e => decide (e.serial ≠ x) := by
    funext e
    simp [bne, Bool.beq_eq_decide_eq]
  rw [DepartedTable.remove, hkept]

end

/-- Settles O24, by the mode and by what the table holds. -/
theorem departedTableIsListedAndForgotten : Obligations.DepartedTableIsListedAndForgotten := by
  refine fun s tag b rest => ⟨fun hh => ?_, fun hh => ?_⟩
  · have hexec : goesTo (exec .listDeparted s) (s.ownListDeparted ⟨.listDeparted, tag, b :: rest⟩) :=
      congrArg Host.Outcome.next (serve_of_handed hh State.ownListDeparted)
    simp only [State.ownListDeparted, answer_eq, departedBody, byteAt, List.getD_cons_zero, oneByte_eq_put, leBytes_eq_put,
      put_one_toNat, List.flatMap_def, funext departedEntryBytes_eq_put] at hexec
    exact hexec
  · have hexec : goesTo (exec .forget s) (s.ownForget ⟨.forget, tag, b :: rest⟩) :=
      congrArg Host.Outcome.next (serve_of_handed hh State.ownForget)
    simp only [State.ownForget, answer_eq, readForgetAll_eq, decide_eq_true_eq] at hexec
    refine ⟨fun hall => ?_, fun hone x hx => ?_⟩
    · rw [if_pos hall] at hexec
      exact hexec
    · rw [if_neg hone, readForgetSerial_eq hx] at hexec
      refine ⟨fun hheld => ?_, fun hother => ?_⟩
      · obtain ⟨e, he⟩ := lookup_isSome hheld
        simp only [he, remove_eq] at hexec
        exact hexec
      · simp only [lookup_eq_none hother] at hexec
        exact hexec

/-! ## SET_MASK -/

theorem toNat_append_byte {w : Nat} (x : BitVec w) (b : Byte) : (x ++ b).toNat = 256 * x.toNat + b.toNat := by
  rw [BitVec.toNat_append, ← Nat.shiftLeft_add_eq_or_of_lt b.isLt, Nat.shiftLeft_eq, Nat.mul_comm]

/-- The bytes of a number that ends with a byte. -/
theorem leBytes_append_byte {w : Nat} (n : Nat) (x : BitVec w) (b : Byte) : leBytes (n + 1) (x ++ b).toNat = b :: leBytes n x.toNat := by
  have hb := b.isLt
  rw [leBytes, toNat_append_byte, show (256 * x.toNat + b.toNat) / 256 = x.toNat by omega]
  congr 1
  exact BitVec.eq_of_toNat_eq (by rw [BitVec.toNat_ofNat]; omega)

/-- Four bytes as a field of 32 bits and back. -/
theorem leBytes_four (b0 b1 b2 b3 : Byte) : leBytes 4 (b3 ++ b2 ++ b1 ++ b0).toNat = [b0, b1, b2, b3] := by
  rw [leBytes_append_byte, leBytes_append_byte, leBytes_append_byte]
  simp [leBytes]

theorem ofNat_le_four (b0 b1 b2 b3 : Byte) : BitVec.ofNat 32 (le [b0, b1, b2, b3] 0 4) = b3 ++ b2 ++ b1 ++ b0 := by
  have hb0 := b0.isLt
  have hb1 := b1.isLt
  have hb2 := b2.isLt
  have hb3 := b3.isLt
  apply BitVec.eq_of_toNat_eq
  rw [toNat_append_byte, toNat_append_byte, toNat_append_byte, BitVec.toNat_ofNat]
  simp [le]
  omega

/-- The settings of codes 1 to 25 (R168, R195). -/
theorem readMask_eq (b0 b1 b2 b3 : Byte) : readMask [b0, b1, b2, b3] = (b3 &&& 3) ++ b2 ++ b1 ++ (b0 &&& 0xFE) := by
  have hkinds : 0x03FFFFFE#32 = 3#8 ++ BitVec.allOnes 8 ++ BitVec.allOnes 8 ++ 0xFE#8 := by decide
  rw [readMask, leField_eq_le, ofNat_le_four, hkinds]
  rw [BitVec.and_append, BitVec.and_append, BitVec.and_append, BitVec.and_allOnes, BitVec.and_allOnes]
  rfl

/-- Settles O26, by the bytes of the mask. -/
theorem setMaskReplacesTheMask : Obligations.SetMaskReplacesTheMask := by
  intro s tag b0 b1 b2 b3 hh
  have hexec : goesTo (exec .setMask s) (s.ownSetMask ⟨.setMask, tag, [b0, b1, b2, b3]⟩) :=
    congrArg Host.Outcome.next (serve_of_handed hh State.ownSetMask)
  simp only [State.ownSetMask, answer_eq, readMask_eq, leBytes_four] at hexec
  exact hexec

end Sys2Proof.Laws
end

section
set_option Elab.async false
/-! PROOFS. How a raise reaches the queue (O27). -/

namespace Sys2Proof.Laws

open Sys2Proof.Machine Sys2Proof.Safety

section
variable {q : EventQueue} {arm : Option Condition} {k : EventKind} {p : Place} {v : Nat}

theorem raise_of_masked (h : q.mask.getLsbD (eventCode k) = true) : q.raise arm k p v = q := if_pos h

theorem raise_of_disarmed (h : q.isDisarmed arm = true) : q.raise arm k p v = q := by
  simp only [EventQueue.raise, h, if_true, ite_self]

theorem isDisarmed_eq_false (h : ∀ c, arm = some c → q.armed[c.number] = true) : q.isDisarmed arm = false := by
  cases arm with
  | none => rfl
  | some c => simp [EventQueue.isDisarmed, h c rfl]

/-- What a raise does that is neither masked nor disarmed (R165). -/
theorem raise_of_armed (hmask : q.mask.getLsbD (eventCode k) = false) (harm : ∀ c, arm = some c → q.armed[c.number] = true) :
    q.raise arm k p v =
      if q.entries.any (EventEntry.isPair k p) then (q.merge k p v).disarm arm
      else if q.entries.length < Config.eventSlots then (q.append k p v).disarm arm
      else if lowestRank q.entries ≤ severityRank k.severity then ({ q.evict with lost := true }.append k p v).disarm arm
      else { q with lost := true } := by
  simp [EventQueue.raise, EventQueue.isMasked, hmask, isDisarmed_eq_false harm]

theorem any_isPair_of_mem {e : EventEntry} (he : e ∈ q.entries) (hk : e.kind = k) (hp : e.place = p) :
    q.entries.any (EventEntry.isPair k p) = true :=
  List.any_eq_true.mpr ⟨e, he, (isPair_iff k p e).mpr ⟨hk, hp⟩⟩

theorem any_isPair_eq_false (h : ∀ x ∈ q.entries, ¬ (x.kind = k ∧ x.place = p)) : q.entries.any (EventEntry.isPair k p) = false :=
  List.any_eq_false.mpr fun x hx => by simpa only [isPair_iff] using h x hx

/-- Only the entry of the pair is merged into (R165 step 3). -/
theorem merge_eq {pre post : List EventEntry} {e : EventEntry} (hq : q.entries = pre ++ e :: post) (hk : e.kind = k) (hp : e.place = p)
    (hother : ∀ x ∈ pre ++ post, ¬ (x.kind = k ∧ x.place = p)) :
    q.merge k p v = { q with entries := pre ++ { e with value := v, count := min 255 (e.count + 1) } :: post } := by
  have hkept : ∀ xs : List EventEntry, (∀ x ∈ xs, ¬ (x.kind = k ∧ x.place = p)) →
      xs.map (fun x => if x.isPair k p then x.repeated v else x) = xs := fun xs hxs => by
    have hsame : ∀ x ∈ xs, (if x.isPair k p then x.repeated v else x) = x := fun x hx => if_neg (by simpa only [isPair_iff] using hxs x hx)
    rw [List.map_congr_left hsame, List.map_id']
  have hrepeated : e.repeated v = { e with value := v, count := min 255 (e.count + 1) } := by
    have hcount : satAdd 255 e.count 1 = min 255 (e.count + 1) := by
      rw [satAdd]
      split_ifs <;> omega
    rw [EventEntry.repeated, hcount]
  rw [EventQueue.merge, hq, List.map_append, List.map_cons, if_pos ((isPair_iff k p e).mpr ⟨hk, hp⟩), hrepeated,
    hkept pre fun x hx => hother x (by simp [hx]), hkept post fun x hx => hother x (by simp [hx])]

end

/-- A severity's rank and its code run against each other (R162, R194). -/
theorem severityRank_add_code (v : Severity) : severityRank v + severityCode v = 3 := by cases v <;> rfl

/-- The lowest rank is at most the rank of each entry and at most the highest. -/
theorem lowestRank_eq {entries : List EventEntry} {n : Nat} (hn : n ≤ 2) (hall : ∀ x ∈ entries, n ≤ x.rank)
    (hsome : ∃ x ∈ entries, x.rank = n) : lowestRank entries = n := by
  have hfold : ∀ (xs : List EventEntry) (m : Nat), n ≤ m → (∀ x ∈ xs, n ≤ x.rank) → (m = n ∨ ∃ x ∈ xs, x.rank = n) →
      xs.foldl (fun m e => min m e.rank) m = n := by
    intro xs
    induction xs with
    | nil => intro m _ _ h; simpa using h
    | cons x xs ih =>
      intro m hm hxs h
      have hx := hxs x (by simp)
      refine ih (min m x.rank) (le_min hm hx) (fun y hy => hxs y (by simp [hy])) ?_
      simp only [List.mem_cons, exists_eq_or_imp] at h
      obtain h | h | h := h
      · exact .inl (by omega)
      · exact .inl (by omega)
      · exact .inr h
  exact hfold entries 2 hn hall (.inr hsome)

section
variable {q : EventQueue} {pre post : List EventEntry} {e : EventEntry} (hq : q.entries = pre ++ e :: post)
  (hpre : ∀ x ∈ pre, severityCode x.kind.severity < severityCode e.kind.severity)
  (hpost : ∀ x ∈ post, severityCode x.kind.severity ≤ severityCode e.kind.severity)
include hq hpre

/-- The oldest entry of the lowest severity gives way (R166). -/
theorem evict_eq (hlow : lowestRank q.entries = e.rank) : q.evict = { q with entries := pre ++ post } := by
  have hkept : ∀ x ∈ pre, ¬ (x.rank == lowestRank q.entries) = true := fun x hx => by
    have hx' := hpre x hx
    have hxr := severityRank_add_code x.kind.severity
    have her := severityRank_add_code e.kind.severity
    rw [hlow, EventEntry.rank, EventEntry.rank, beq_iff_eq]
    omega
  have hgives : (e.rank == lowestRank q.entries) = true := by rw [hlow, beq_self_eq_true]
  rw [EventQueue.evict]
  generalize lowestRank q.entries = n at hkept hgives
  rw [hq, List.eraseP_append_right _ hkept, List.eraseP_cons_of_pos (p := fun x : EventEntry => x.rank == n) hgives]

include hpost

theorem lowestRank_of_last : lowestRank q.entries = e.rank := by
  have her := severityRank_add_code e.kind.severity
  refine lowestRank_eq (by simp only [EventEntry.rank]; cases e.kind.severity <;> decide) (fun x hx => ?_) ⟨e, by simp [hq], rfl⟩
  have hxr := severityRank_add_code x.kind.severity
  simp only [hq, List.mem_append, List.mem_cons] at hx
  simp only [EventEntry.rank]
  obtain hx | rfl | hx := hx
  · have := hpre x hx
    omega
  · exact le_refl _
  · have := hpost x hx
    omega

end

section
variable {s : State} {c : Condition}

theorem endCondition_of_ended (h : s.standing[c.number] = none) : s.endCondition c = s := by
  simp [State.endCondition, State.stands, h]

theorem endCondition_of_standing (h : s.standing[c.number] ≠ none) : s.endCondition c =
    (s.withStanding (s.standing.set c.number none)).withEvents { s.events with armed := s.events.armed.set c.number true } :=
  if_pos (Option.isSome_iff_ne_none.mpr h)

end

/-- Settles O27, by the cases of R165 and R166. -/
theorem raisesReachTheQueue : Obligations.RaisesReachTheQueue := by
  intro q arm k p v after entry
  have hafter (x : EventQueue) : x.disarm arm = after x := by cases arm <;> rfl
  refine ⟨?_, fun hmask harm => ⟨fun pre e post hq hk hp hother => ?_, fun hnew => ⟨fun hroom => ?_, ?_⟩⟩, fun s c =>
    ⟨rfl, rfl, endCondition_of_ended, endCondition_of_standing, by cases c <;> rfl⟩⟩
  · rintro (hmask | ⟨c, rfl, hc⟩)
    · exact raise_of_masked hmask
    · exact raise_of_disarmed (by simp [EventQueue.isDisarmed, hc])
  · rw [raise_of_armed hmask harm, if_pos (any_isPair_of_mem (by simp [hq]) hk hp), merge_eq hq hk hp hother, hafter]
  · rw [raise_of_armed hmask harm, any_isPair_eq_false hnew, if_neg (by decide),
      if_pos (show q.entries.length < Config.eventSlots from hroom), hafter]
    rfl
  · intro pre e post hq hfull hpre hpost
    have hlow := lowestRank_of_last hq hpre hpost
    have hk := severityRank_add_code k.severity
    have he := severityRank_add_code e.kind.severity
    rw [raise_of_armed hmask harm, any_isPair_eq_false hnew, if_neg (by decide),
      if_neg (show ¬ q.entries.length < Config.eventSlots from Nat.not_lt.mpr hfull), hlow, EventEntry.rank]
    refine ⟨fun hgives => ?_, fun habove => ?_⟩
    · rw [if_pos (by omega), evict_eq hq hpre hlow, hafter]
      rfl
    · rw [if_neg (by omega)]

end Sys2Proof.Laws
end

section
set_option Elab.async false
/-! PROOFS. The writing of one station's record, level bands in the words of the statements, and the requests GET_STATION (O28), CONFIG_STATION
(O29), SET_VOLUMES (O30) and CONFIG_PART (O19). -/

namespace Sys2Proof.Laws

open Sys2Proof.Machine Sys2Proof.Safety

/-! ## One station's record -/

section
variable {s : State} {i : Station}

theorem setStation_setStation (s : State) (i : Station) (r r' : StationRec) : (s.setStation i r).setStation i r' = s.setStation i r' := by
  simp only [State.setStation, State.withStations]
  congr 1
  exact Vector.set_set r i.isLt

/-- A record and the events written anew: the earlier writes are gone. -/
theorem setStation_withEvents_setStation (s : State) (i : Station) (r r' : StationRec) (q q' : EventQueue) :
    (((s.withEvents q).setStation i r).withEvents q').setStation i r' = (s.withEvents q').setStation i r' :=
  setStation_setStation (s.withEvents q') i r r'

theorem setStation_self (s : State) (i : Station) : s.setStation i (s.station i) = s := by
  simp only [State.setStation, State.withStations, State.station]
  congr 1
  exact Vector.set_getElem_self i.isLt

@[simp] theorem raise_station (s : State) (k : EventKind) (p : Place) (v : Nat) (i : Station) : (s.raise k p v).station i = s.station i := rfl

/-- A record is changed by writing it anew. -/
theorem modStation_setStation (s : State) (i : Station) (r : StationRec) (f : StationRec → StationRec) :
    (s.setStation i r).modStation i f = s.setStation i (f r) := by
  rw [State.modStation, setStation_setStation, State.setStation_station_same]

theorem modCartridge_eq {c : CartridgeRecord} (hc : (s.station i).cartridge = some c) (f : CartridgeRecord → CartridgeRecord) :
    s.modCartridge i f = s.setStation i { s.station i with cartridge := some (f c) } := by
  simp only [State.modCartridge, State.modStation, hc, Option.map_some]

/-- The station that a body's first byte names. -/
theorem bodyStation_cons {b : Byte} (h : b.toNat = i.val) (rest : List Byte) : bodyStation (b :: rest) = i := by
  rw [bodyStation, byteAt, List.getD_cons_zero, h]
  exact Fin.ofNat_eq_cast 8 i.val ▸ Fin.cast_val_eq_self i

end

/-! ## Level bands -/

theorem levelBand_eq (p : PartConfig) (capacity used : Nat) : levelBand p.lowPermille p.criticalPermille capacity used = levelAt p capacity used := by
  simp only [levelBand, levelAt, remaining, permille, Nat.sub_eq_zero_iff_le]
  rfl

theorem bandCode_eq (b : LevelBand) : bandCode b = levelNumber b := by cases b <;> rfl

section
variable {s : State} {i : Station} {c : CartridgeRecord}

/-- A computed band as noted: the record's band with its flag, and LEVEL_BAND for a reported one (R128). -/
theorem noteBand_eq (hc : (s.station i).cartridge = some c) (b : LevelBand) :
    s.noteBand i c.band b =
      (s.withEvents (if reportedBand c.band b then s.events.raise none .levelBand (some i) (levelNumber b) else s.events)).setStation i
        { s.station i with cartridge := some { c with band := some b, bandChanged := c.bandChanged || reportedBand c.band b } } := by
  unfold State.noteBand
  by_cases hsame : c.band = some b
  · have hreported : reportedBand c.band b = false := by simp [reportedBand, hsame]
    have hrecord : { s.station i with cartridge := some { c with band := some b, bandChanged := c.bandChanged || false } } = s.station i := by
      rw [Bool.or_false, ← hsame, ← hc]
    rw [if_pos hsame, hreported, hrecord]
    exact (setStation_self s i).symm
  · rw [if_neg hsame]
    by_cases hfirst : c.band = none ∧ b = .ok
    · have hreported : reportedBand c.band b = false := by simp [reportedBand, hfirst]
      rw [if_pos hfirst, modCartridge_eq hc, hreported, Bool.or_false]
      rfl
    · have hreported : reportedBand c.band b = true := by simp [reportedBand, hsame, hfirst]
      rw [if_neg hfirst, modCartridge_eq hc, hreported, bandCode_eq, Bool.or_true]
      rfl

/-- A first arrival at EMPTY as noted: latch and flag, CARTRIDGE_EMPTY, and the test for a write-back need of a latch newly set (R129, R136). -/
theorem noteEmpty_eq {c0 : CartridgeRecord} (hc : (s.station i).cartridge = some c) (used : Nat) (hraised : c0.emptyRaised = c.emptyRaised)
    (hlatch : c0.emptyLatch = c.emptyLatch) :
    s.noteEmpty i c0 used =
      if c.emptyRaised then s
      else
        let c1 := { c with emptyLatch := true, emptyRaised := true }
        let x := (s.withEvents (s.events.raise none .cartridgeEmpty (some i) used)).setStation i { s.station i with cartridge := some c1 }
        if c.emptyLatch then x else afterNeed x i c1 := by
  rw [State.noteEmpty, hraised, hlatch, modCartridge_eq hc]
  by_cases he : c.emptyRaised = true
  · rw [if_pos he, if_pos he]
  · rw [if_neg he, if_neg he]
    by_cases hl : c.emptyLatch = true
    · rw [if_pos hl, if_pos hl]
      rfl
    · rw [if_neg hl, if_neg hl]
      exact testWriteBack_eq (by simp)

section
variable {capacity : ℕ} {a : Account} (hc : (s.station i).cartridge = some c) (hcapacity : c.capacity = some capacity)
  (haccount : c.account = some a)
include hc hcapacity haccount

theorem computeBand_of_figures : s.computeBand i =
    if levelAt s.part capacity a.used = .empty then (s.noteBand i c.band (levelAt s.part capacity a.used)).noteEmpty i c a.used
    else s.noteBand i c.band (levelAt s.part capacity a.used) := by
  simp only [State.computeBand, hc, hcapacity, haccount, levelBand_eq]

theorem bandComputed_of_figures : bandComputed s i =
    let c1 := withLevel s.part capacity a.used c
    let x := (s.withEvents (levelEvents s.part i capacity a.used c s.events)).setStation i { s.station i with cartridge := some c1 }
    if c1.emptyLatch = c.emptyLatch then x else afterNeed x i c1 := by
  unfold bandComputed
  split
  · next hnone => exact absurd (hc.symm.trans hnone) (by simp)
  · next c' hc' =>
    obtain rfl : c = c' := Option.some.inj (hc.symm.trans hc')
    split
    · next capacity' a' hcapacity' haccount' =>
      obtain rfl : capacity = capacity' := Option.some.inj (hcapacity.symm.trans hcapacity')
      obtain rfl : a = a' := Option.some.inj (haccount.symm.trans haccount')
      rfl
    · next hno => exact absurd haccount (hno _ _ hcapacity)

/-- The computation of a level band of a record with figures (R128, R129). -/
theorem computeBand_eq_of_figures : s.computeBand i = bandComputed s i := by
  rw [computeBand_of_figures hc hcapacity haccount, bandComputed_of_figures hc hcapacity haccount, noteBand_eq hc]
  unfold withLevel levelEvents
  generalize levelAt s.part capacity a.used = b
  by_cases hempty : b = .empty
  · rw [if_pos hempty, noteEmpty_eq (c0 := c) (c := { c with band := some b, bandChanged := c.bandChanged || reportedBand c.band b })
      (by simp) a.used rfl rfl]
    cases hraised : c.emptyRaised with
    | true => simp [hempty]
    | false => cases hlatch : c.emptyLatch <;> simp [hempty, setStation_withEvents_setStation]
  · simp [hempty]

end

/-- The computation of a level band (R128, R129). -/
theorem computeBand_eq (s : State) (i : Station) : s.computeBand i = bandComputed s i := by
  cases hc : (s.station i).cartridge with
  | none => simp only [State.computeBand, bandComputed, hc]
  | some c =>
    cases hcapacity : c.capacity with
    | none => simp only [State.computeBand, bandComputed, hc, hcapacity]
    | some capacity =>
      cases haccount : c.account with
      | none => simp only [State.computeBand, bandComputed, hc, hcapacity, haccount]
      | some a => exact computeBand_eq_of_figures hc hcapacity haccount

/-- All bands, in station order (R184). -/
theorem forStations_computeBand_eq (s : State) :
    s.forStations State.computeBand = ([0, 1, 2, 3, 4, 5, 6, 7] : List Station).foldl bandComputed s := by
  rw [funext fun s => funext (computeBand_eq s)]
  rfl

end

/-! ## CONFIG_PART -/

/-- CONFIG_PART's values as stored (R183). -/
theorem readPartConfig_eq {body : List Byte} {p : PartConfig}
    (h1 : p.t1 = within 0 147 (le body 0 1)) (h2 : p.t2 = within (p.t1 + 1) 148 (le body 1 1))
    (h3 : p.t3 = within (p.t2 + 1) 149 (le body 2 1)) (h4 : p.t4 = within (p.t3 + 1) 150 (le body 3 1))
    (hlow : p.lowPermille = within 2 500 (le body 4 2)) (hcritical : p.criticalPermille = within 1 (p.lowPermille - 1) (le body 6 2))
    (htolerance : p.tolerance = within 0 10000000 (le body 8 4)) (hquantum : p.quantum = within 10000 10000000 (le body 12 4))
    (hpolicy : p.policy = (if le body 16 1 = 1 then .quarantine else .warn)) (hspacing : p.pollSpacing = within 1 255 (le body 17 1))
    (hspeed : p.busSpeed = (if le body 18 1 = 1 then .khz400 else .khz100)) : readPartConfig body = p := by
  have hwithin {low high : Nat} (h : low ≤ high) (x : Nat) : low ≤ within low high x ∧ within low high x ≤ high := by
    simp only [within]
    omega
  have hc1 : clampTo 0 147 (byteAt body 0).toNat = p.t1 := by rw [byteAt_toNat_eq_le, clampTo_eq_within (by decide), h1]
  have hb1 : p.t1 ≤ 147 := h1 ▸ (hwithin (by decide) _).2
  have hc2 : clampTo (p.t1 + 1) 148 (byteAt body 1).toNat = p.t2 := by rw [byteAt_toNat_eq_le, clampTo_eq_within (by omega), h2]
  have hb2 : p.t2 ≤ 148 := h2 ▸ (hwithin (by omega) _).2
  have hc3 : clampTo (p.t2 + 1) 149 (byteAt body 2).toNat = p.t3 := by rw [byteAt_toNat_eq_le, clampTo_eq_within (by omega), h3]
  have hb3 : p.t3 ≤ 149 := h3 ▸ (hwithin (by omega) _).2
  have hc4 : clampTo (p.t3 + 1) 150 (byteAt body 3).toNat = p.t4 := by rw [byteAt_toNat_eq_le, clampTo_eq_within (by omega), h4]
  have hclow : clampTo 2 500 (leField body 4 2) = p.lowPermille := by rw [leField_eq_le, clampTo_eq_within (by decide), hlow]
  have hblow : 2 ≤ p.lowPermille := hlow ▸ (hwithin (by decide) _).1
  have hccritical : clampTo 1 (p.lowPermille - 1) (leField body 6 2) = p.criticalPermille := by
    rw [leField_eq_le, clampTo_eq_within (by omega), hcritical]
  simp only [readPartConfig, hc1, hc2, hc3, hc4, hclow, hccritical]
  simp only [leField_eq_le, byteAt_toNat_eq_le, clampTo_eq_within (show 0 ≤ 10000000 by decide),
    clampTo_eq_within (show 10000 ≤ 10000000 by decide), clampTo_eq_within (show 1 ≤ 255 by decide), ← htolerance, ← hquantum,
    ← hpolicy, ← hspacing, ← hspeed]

theorem partConfigBody_eq_put (p : PartConfig) : partConfigBody p =
    put 1 p.t1 ++ put 1 p.t2 ++ put 1 p.t3 ++ put 1 p.t4 ++ put 2 p.lowPermille ++ put 2 p.criticalPermille
      ++ put 4 p.tolerance ++ put 4 p.quantum ++ put 1 (if p.policy = .quarantine then 1 else 0) ++ put 1 p.pollSpacing
      ++ put 1 (if p.busSpeed = .khz400 then 1 else 0) := by
  have hpolicy : policyCode p.policy = if p.policy = .quarantine then 1 else 0 := by cases p.policy <;> rfl
  have hspeed : speedCode p.busSpeed = if p.busSpeed = .khz400 then 1 else 0 := by cases p.busSpeed <;> rfl
  simp only [partConfigBody, oneByte_eq_put, leBytes_eq_put, hpolicy, hspeed]

/-- Settles O19, by the values stored and the computation of every band. -/
theorem configPartStoresClampedValues : Obligations.ConfigPartStoresClampedValues := by
  intro s tag body p hh h1 h2 h3 h4 hlow hcritical htolerance hquantum hpolicy hspacing hspeed
  have hexec : goesTo (exec .configPart s) (s.ownConfigPart ⟨.configPart, tag, body⟩) :=
    congrArg Host.Outcome.next (serve_of_handed hh State.ownConfigPart)
  rw [State.ownConfigPart, readPartConfig_eq h1 h2 h3 h4 hlow hcritical htolerance hquantum hpolicy hspacing hspeed, answer_eq,
    State.storePart, forStations_computeBand_eq, partConfigBody_eq_put] at hexec
  exact hexec

/-! ## CONFIG_STATION -/

theorem readStationConfig_eq (b : Byte) (rest : List Byte) : readStationConfig (b :: rest) =
    { expectedInk := le rest 0 2, defaultCapacity := within 1000000 2000000000 (le rest 2 4)
      swapReserve := within 0 50000000 (le rest 6 4), cycleCeiling := within 1 201080880 (le rest 10 4)
      inkSenseEnable := decide (le rest 14 1 ≠ 0) } := by
  have henable : (byteAt (b :: rest) 15 != 0) = decide (le rest 14 1 ≠ 0) := by
    rw [← le_cons b, ← byteAt_toNat_eq_le]
    simp [bne, Bool.beq_eq_decide_eq, BitVec.toNat_eq]
  simp only [readStationConfig, henable, leField_eq_le, le_cons, clampTo_eq_within (show 1000000 ≤ 2000000000 by decide),
    clampTo_eq_within (show 0 ≤ 50000000 by decide), clampTo_eq_within (show 1 ≤ 201080880 by decide)]

/-- The debouncer under a new enable (R26, R156). -/
theorem enabled_eq {k ink : InkSense} {old new input : Bool} (hsame : new = old → ink = k)
    (hon : new = true → old = false → ink = { candidate := input, settle := true, reading := none, baseline := k.baseline })
    (hoff : new = false → old = true → ink = { candidate := false, settle := false, reading := none, baseline := none }) :
    k.enabled old new input = ink := by
  cases old <;> cases new
  · exact (hsame rfl).symm
  · exact (hon rfl rfl).symm
  · exact (hoff rfl rfl).symm
  · exact (hsame rfl).symm

theorem stationConfigBytes_eq_put (c : StationConfig) : stationConfigBytes c =
    put 2 c.expectedInk ++ put 4 c.defaultCapacity ++ put 4 c.swapReserve ++ put 4 c.cycleCeiling ++ put 1 c.inkSenseEnable.toNat := by
  simp only [stationConfigBytes, leBytes_eq_put, flagsField_eq_put, flagsNumber, cond_eq_toNat, Nat.mul_zero, Nat.add_zero]

/-- A saturating sum (R1). -/
theorem satAdd_eq_min (maximum a b : Nat) : satAdd maximum a b = min maximum (a + b) := by
  rw [satAdd]
  split_ifs <;> omega

/-- The comparison of a new reserve with the debt of a record (R133). -/
theorem applyReserve_setStation (s : State) (i : Station) (r : StationRec) (reserve : Nat) :
    (s.setStation i r).applyReserve i reserve =
      if reserve < r.meter.debt then
        (s.setStation i (r.lowerReserve reserve)).raiseCondition (.reservoirDry i)
          (min 4294967295 (r.meter.dryOverflow + (r.meter.debt - reserve)))
      else if r.meter.debt < reserve then (s.setStation i r).endCondition (.reservoirDry i) else s.setStation i r := by
  simp only [State.applyReserve, State.setStation_station_same, modStation_setStation]
  rw [StationRec.lowerReserve, satAdd_eq_min]
  rfl

/-- Settles O29, by the new reserve against the debt. -/
theorem configStationStoresClampedValues : Obligations.ConfigStationStoresClampedValues := by
  intro s i tag b rest c ink hh hb hexpected hcapacity hreserve hceiling henable hsame hon hoff
  have hexec : goesTo (exec .configStation s) (s.ownConfigStation ⟨.configStation, tag, b :: rest⟩) :=
    congrArg Host.Outcome.next (serve_of_handed hh State.ownConfigStation)
  have hread : readStationConfig (b :: rest) = c := by
    rw [readStationConfig_eq, ← hexpected, ← hcapacity, ← hreserve, ← hceiling, ← henable]
  have hconfigured : (s.station i).configured c s.inkInputs[i] = { s.station i with config := c, ink } := by
    rw [StationRec.configured, enabled_eq hsame hon hoff]
  simp only [State.ownConfigStation, bodyStation_cons hb, hread, State.modStation, hconfigured, applyReserve_setStation, answer_eq,
    oneByte_eq_put, ← hb, put_one_toNat, stationConfigBytes_eq_put, ← List.append_assoc] at hexec
  refine ⟨fun hlow dry hdry => ?_, fun heq => ?_, fun hhigh => ?_⟩
  · subst hdry
    rw [if_pos hlow, StationRec.lowerReserve, satAdd_eq_min] at hexec
    exact hexec
  · rw [if_neg (by omega), if_neg (by omega)] at hexec
    exact hexec
  · rw [if_neg (by omega), if_pos hhigh] at hexec
    exact hexec

/-! ## SET_VOLUMES -/

theorem readVolumes_eq {b : Byte} {rest : List Byte} {v : VolumeTable} (hvalid : v.valid = true)
    (hvolumes : v.volumes =
      ⟨within 0 4095 (le rest 0 2), within 0 4095 (le rest 2 2), within 0 4095 (le rest 4 2), within 0 4095 (le rest 6 2)⟩)
    (hfactors : ∀ k : Fin 5, v.factors[k] = within 128 384 (le rest (8 + 2 * k.val) 2)) : readVolumes (b :: rest) = v := by
  obtain ⟨valid, volumes, factors⟩ := v
  simp only at hvalid hvolumes hfactors
  have hvector : #v[within 128 384 (le rest 8 2), within 128 384 (le rest 10 2), within 128 384 (le rest 12 2),
      within 128 384 (le rest 14 2), within 128 384 (le rest 16 2)] = factors := by
    ext k hk
    rw [show factors[k] = within 128 384 (le rest (8 + 2 * k) 2) from hfactors ⟨k, hk⟩]
    interval_cases k <;> rfl
  simp only [readVolumes, leField_eq_le, clampTo_eq_within (show 0 ≤ 4095 by decide), clampTo_eq_within (show 128 ≤ 384 by decide),
    Nat.add_comm 1, Nat.add_comm 9, le_cons, hvalid, hvolumes]
  rw [← hvector]

end Sys2Proof.Laws
end

section
set_option Elab.async false
/-! PROOFS. SET_VOLUMES (O30) and GET_STATION (O28): the layouts in the words of the statements. -/

namespace Sys2Proof.Laws

open Sys2Proof.Machine Sys2Proof.Safety

/-! ## SET_VOLUMES -/

theorem volumeBytes_eq_put (v : VolumeTable) : volumeBytes v =
    put 2 v.volumes.small ++ put 2 v.volumes.medium ++ put 2 v.volumes.large ++ put 2 v.volumes.service
      ++ put 2 v.factors[0] ++ put 2 v.factors[1] ++ put 2 v.factors[2] ++ put 2 v.factors[3] ++ put 2 v.factors[4] := by
  have hfactors : v.factors.toList = [v.factors[0], v.factors[1], v.factors[2], v.factors[3], v.factors[4]] := by
    refine List.ext_getElem (by simp) fun k h1 h2 => ?_
    simp only [List.length_cons, List.length_nil] at h2
    interval_cases k <;> simp
  simp only [volumeBytes, hfactors, List.flatMap_cons, List.flatMap_nil, leBytes_eq_put, List.append_nil, List.append_assoc]

/-- Settles O30, by the values read. -/
theorem setVolumesMakesTableValid : Obligations.SetVolumesMakesTableValid := by
  intro s i tag b rest v hh hb hvalid hvolumes hfactors
  have hexec : goesTo (exec .setVolumes s) (s.ownSetVolumes ⟨.setVolumes, tag, b :: rest⟩) :=
    congrArg Host.Outcome.next (serve_of_handed hh State.ownSetVolumes)
  simp only [State.ownSetVolumes, bodyStation_cons hb, readVolumes_eq hvalid hvolumes hfactors, answer_eq, oneByte_eq_put, ← hb,
    put_one_toNat, volumeBytes_eq_put, ← List.append_assoc] at hexec
  exact hexec

/-! ## GET_STATION's layout -/

/-- A flag as a bit at a place of a number. -/
def flagAt (b : Bool) (k : Nat) : Nat := if b then 2 ^ k else 0

/-- Flags from a place on: the first at that place, the others above it. -/
theorem two_pow_mul_flagsNumber_cons (k : Nat) (b : Bool) (flags : List Bool) :
    2 ^ k * flagsNumber (b :: flags) = flagAt b k + 2 ^ (k + 1) * flagsNumber flags := by
  cases b <;> simp only [flagsNumber, flagAt, cond, pow_succ, if_true, if_false, Bool.false_eq_true] <;> ring

theorem two_pow_mul_flagsNumber_nil (k : Nat) : 2 ^ k * flagsNumber [] = 0 := Nat.mul_zero _

theorem flagsNumber_eq_two_pow_mul (flags : List Bool) : flagsNumber flags = 2 ^ 0 * flagsNumber flags := (Nat.one_mul _).symm

theorem flagsNumber_two (a b : Bool) : flagsNumber [a, b] =
    flagAt a 0 + flagAt b 1 := by
  rw [flagsNumber_eq_two_pow_mul]
  simp only [two_pow_mul_flagsNumber_cons, two_pow_mul_flagsNumber_nil, Nat.add_zero, Nat.zero_add]

theorem flagsNumber_four (a b c d : Bool) : flagsNumber [a, b, c, d] =
    flagAt a 0 + flagAt b 1 + flagAt c 2 + flagAt d 3 := by
  rw [flagsNumber_eq_two_pow_mul]
  simp only [two_pow_mul_flagsNumber_cons, two_pow_mul_flagsNumber_nil, Nat.add_zero, Nat.zero_add, Nat.reduceAdd, ← Nat.add_assoc]

theorem flagsNumber_six (a b c d x y : Bool) : flagsNumber [a, b, c, d, x, y] =
    flagAt a 0 + flagAt b 1 + flagAt c 2 + flagAt d 3 + flagAt x 4 + flagAt y 5 := by
  rw [flagsNumber_eq_two_pow_mul]
  simp only [two_pow_mul_flagsNumber_cons, two_pow_mul_flagsNumber_nil, Nat.add_zero, Nat.zero_add, Nat.reduceAdd, ← Nat.add_assoc]

theorem flagsNumber_seven (a b c d x y z : Bool) : flagsNumber [a, b, c, d, x, y, z] =
    flagAt a 0 + flagAt b 1 + flagAt c 2 + flagAt d 3 + flagAt x 4 + flagAt y 5 + flagAt z 6 := by
  rw [flagsNumber_eq_two_pow_mul]
  simp only [two_pow_mul_flagsNumber_cons, two_pow_mul_flagsNumber_nil, Nat.add_zero, Nat.zero_add, Nat.reduceAdd, ← Nat.add_assoc]

theorem flagsNumber_eight (a b c d x y z w : Bool) : flagsNumber [a, b, c, d, x, y, z, w] =
    flagAt a 0 + flagAt b 1 + flagAt c 2 + flagAt d 3 + flagAt x 4 + flagAt y 5 + flagAt z 6 + flagAt w 7 := by
  rw [flagsNumber_eq_two_pow_mul]
  simp only [two_pow_mul_flagsNumber_cons, two_pow_mul_flagsNumber_nil, Nat.add_zero, Nat.zero_add, Nat.reduceAdd, ← Nat.add_assoc]

theorem length_put (n x : Nat) : (put n x).length = n := by simp [put]

theorem getD_eq_decide (o : Option Bool) : o.getD false = decide (o = some true) := by
  rcases o with _ | _ | _ <;> rfl

theorem recheck_eq_any (c : Option AuthContext) : (c.map (·.recheck)).getD false = c.any (·.recheck) := by cases c <;> rfl

/-- The code of an attempt's ending, 0 for none (R194). -/
def endingNumber : Option AttemptEnding → Nat
  | none => 0
  | some .noAnswer => 1
  | some .mismatch => 2

theorem endingNumber_eq (e : Option AttemptEnding) : (e.map endingCode).getD 0 = endingNumber e := by
  rcases e with _ | _ | _ <;> rfl

/-- The code of a quarantine cause, 0 for none (R194). -/
def causeNumber : Option QuarantineCause → Nat
  | none => 0 | some .noTag => 1 | some .malformed => 2 | some .wrongInk => 3 | some .duplicate => 4 | some .keyAbsent => 5
  | some .keyRevoked => 6 | some .noResponse => 7 | some .badResponse => 8 | some .refill => 9

theorem causeNumber_eq (c : Option QuarantineCause) : (c.map causeCode).getD 0 = causeNumber c := by
  rcases c with _ | c
  · rfl
  · cases c <;> rfl

/-- The code of a level band, 0 for none (R194). -/
def bandNumber : Option LevelBand → Nat
  | none => 0
  | some b => levelNumber b

theorem bandNumber_eq (b : Option LevelBand) : (b.map bandCode).getD 0 = bandNumber b := by
  cases b with
  | none => rfl
  | some b => exact bandCode_eq b

theorem trustCode_eq (c : TrustClass) : trustCode c = trustNumber c := by cases c <;> rfl

/-- The origin's two bytes: its code, and the carried class where there is one (section 12.5). -/
def originWord : Option Origin → List Byte
  | none => put 1 0 ++ put 1 255
  | some .new => put 1 0 ++ put 1 255
  | some (.restored .genuine) => put 1 1 ++ put 1 1
  | some (.restored .refilled) => put 1 1 ++ put 1 2

/-- The auth context's byte (section 12.5). -/
def contextWord : Option AuthContext → List Byte
  | none => put 1 0
  | some x => put 1 (stepCode x.step + 4 * x.attempt + 16 * endingNumber x.lastEnding)

theorem contextWord_eq (c : Option AuthContext) : oneByte (contextByte c) = contextWord c := by
  rw [oneByte_eq_put]
  rcases c with _ | x
  · rfl
  · simp only [contextByte, contextWord, endingNumber_eq]

theorem length_contextWord (c : Option AuthContext) : (contextWord c).length = 1 := by cases c <;> exact length_put ..

/-- Serial and ink type, 0 where absent (section 12.5). -/
def serialWord : Option Identity → List Byte
  | none => put 10 0
  | some id => put 8 id.serial.toNat ++ put 2 id.inkType

/-- Key index and fill generation, 0 where absent (section 12.5). -/
def indexWord : Option Identity → List Byte
  | none => put 2 0
  | some id => put 1 id.keyIndex ++ put 1 id.fillGeneration

/-- The tag's used figure, 0 where absent (section 12.5). -/
def tagUsedWord : Option Identity → List Byte
  | none => put 4 0
  | some id => put 4 id.tagUsed

/-- The base flags, 0 where absent (section 12.5). -/
def baseFlagsWord : Option Account → List Byte
  | none => put 1 0
  | some a => put 1 (flagAt a.baseFlags.emptyLatch 0 + flagAt a.baseFlags.refillMark 1)

/-- The account's three figures, 0 where absent (section 12.5). -/
def figuresWord : Option Account → List Byte
  | none => put 12 0
  | some a => put 4 a.used ++ put 4 a.lastWritten ++ put 4 a.baseUsed

/-- A seated cartridge's bytes (section 12.5). -/
def cartridgeWord (c : CartridgeRecord) : List Byte :=
  put 2 (1 + flagAt c.identity.isSome 1 + flagAt c.capacity.isSome 2 + flagAt c.account.isSome 3 + flagAt c.origin.isSome 4
    + flagAt c.cause.isSome 5 + flagAt c.band.isSome 6)
  ++ serialWord c.identity
  ++ put 4 (c.capacity.getD 0)
  ++ indexWord c.identity
  ++ put 1 (trustNumber c.trust)
  ++ put 1 (causeNumber c.cause)
  ++ originWord c.origin
  ++ put 1 (flagAt c.evidence.rollback 0 + flagAt c.evidence.emptyReturn 1 + flagAt c.evidence.marked 2 + flagAt c.evidence.overdraw 3
    + flagAt c.evidence.senseRise 4 + flagAt c.evidence.conflict 5)
  ++ put 1 (flagAt c.authenticated 0 + flagAt c.emptyLatch 1 + flagAt c.refillMark 2 + flagAt c.bandChanged 3 + flagAt c.overdrawRaised 4
    + flagAt c.emptyRaised 5 + flagAt c.usedSaturated 6)
  ++ put 1 (bandNumber c.band)
  ++ baseFlagsWord c.account
  ++ tagUsedWord c.identity
  ++ figuresWord c.account

theorem length_originWord (o : Option Origin) : (originWord o).length = 2 := by
  rcases o with _ | _ | _ | _ <;> rfl

theorem length_identityWords (id : Option Identity) :
    (serialWord id).length = 10 ∧ (indexWord id).length = 2 ∧ (tagUsedWord id).length = 4 := by
  cases id <;> simp only [serialWord, indexWord, tagUsedWord, List.length_append, length_put] <;> decide

theorem length_accountWords (a : Option Account) : (baseFlagsWord a).length = 1 ∧ (figuresWord a).length = 12 := by
  cases a <;> simp only [baseFlagsWord, figuresWord, List.length_append, length_put] <;> decide

theorem length_cartridgeWord (c : CartridgeRecord) : (cartridgeWord c).length = 42 := by
  obtain ⟨hserial, hindex, htagUsed⟩ := length_identityWords c.identity
  obtain ⟨hflags, hfigures⟩ := length_accountWords c.account
  simp only [cartridgeWord, List.length_append, length_put, length_originWord, hserial, hindex, htagUsed, hflags, hfigures]

/-- Serial and ink type (section 12.5). -/
theorem serialWord_append (id : Option Identity) (rest : List Byte) :
    put 8 ((id.map (·.serial.toNat)).getD 0) ++ (put 2 ((id.map (·.inkType)).getD 0) ++ rest) = serialWord id ++ rest := by
  cases id with
  | none => exact congrArg (· ++ rest) (show put 8 0 ++ put 2 0 = put 10 0 by decide)
  | some id => exact (List.append_assoc ..).symm

/-- Key index and fill generation (section 12.5). -/
theorem indexWord_append (id : Option Identity) (rest : List Byte) :
    put 1 ((id.map (·.keyIndex)).getD 0) ++ (put 1 ((id.map (·.fillGeneration)).getD 0) ++ rest) = indexWord id ++ rest := by
  cases id with
  | none => exact congrArg (· ++ rest) (show put 1 0 ++ put 1 0 = put 2 0 by decide)
  | some id => exact (List.append_assoc ..).symm

theorem figuresWord_eq (a : Option Account) : put 4 ((a.map (·.used)).getD 0) ++ (put 4 ((a.map (·.lastWritten)).getD 0)
    ++ put 4 ((a.map (·.baseUsed)).getD 0)) = figuresWord a := by
  cases a with
  | none => decide
  | some a => exact (List.append_assoc ..).symm

theorem tagUsedWord_eq (id : Option Identity) : put 4 ((id.map (·.tagUsed)).getD 0) = tagUsedWord id := by cases id <;> rfl

theorem baseFlagsWord_eq (a : Option Account) : put 1 (flagsNumber [(a.map (·.baseFlags.emptyLatch)).getD false,
    (a.map (·.baseFlags.refillMark)).getD false]) = baseFlagsWord a := by
  rw [flagsNumber_two]
  cases a <;> rfl

/-- The origin's code and the carried class (section 12.5). -/
theorem originWord_append (o : Option Origin) (rest : List Byte) :
    put 1 ((o.map originCode).getD 0) ++ (put 1 (match o with
      | some (.restored cls) => trustCode cls.trust
      | some .new | none => 255) ++ rest) = originWord o ++ rest := by
  rcases o with _ | _ | _ | _ <;> rfl

theorem cartridgeBytes_some (c : CartridgeRecord) : cartridgeBytes (some c) = cartridgeWord c := by
  have hrecord : flagAt (some c).isSome 0 = 1 := rfl
  delta cartridgeBytes
  simp only [cartridgeWord, flagsField_eq_put, oneByte_eq_put, leBytes_eq_put, evidenceByte, absentMarker, Option.map_some,
    Option.getD_some, Option.bind_some, List.append_assoc]
  simp only [baseFlagsWord_eq, flagsNumber_six, flagsNumber_seven, causeNumber_eq, bandNumber_eq, trustCode_eq, hrecord]
  simp only [serialWord_append, indexWord_append]
  simp only [figuresWord_eq, tagUsedWord_eq]
  rw [← originWord_append]
  simp only [trustCode_eq] <;> rfl

theorem cartridgeBytes_none : cartridgeBytes none = put 21 0 ++ put 1 255 ++ put 20 0 := by decide

/-- The cartridge record's bytes (section 12.5). -/
def recordWord : Option CartridgeRecord → List Byte
  | none => put 21 0 ++ put 1 255 ++ put 20 0
  | some c => cartridgeWord c

theorem cartridgeBytes_eq (c : Option CartridgeRecord) : cartridgeBytes c = recordWord c := by
  cases c with
  | none => exact cartridgeBytes_none
  | some c => exact cartridgeBytes_some c

theorem length_recordWord (c : Option CartridgeRecord) : (recordWord c).length = 42 := by
  cases c with
  | none => decide
  | some c => exact length_cartridgeWord c

/-- The metering fields' bytes (section 12.5). -/
def meteringWord (m : Metering) (uncalibrated : Bool) : List Byte :=
  put 2 m.fraction ++ put 4 m.debt ++ put 4 m.dryOverflow ++ put 4 m.charged ++ put 4 m.converted
    ++ put 6 m.lifetime.small ++ put 6 m.lifetime.medium ++ put 6 m.lifetime.large ++ put 6 m.lifetime.service
    ++ put 1 (m.lastTemp.getD 255) ++ put 1 m.band.val
    ++ put 1 (flagAt m.bandChanged 0 + flagAt m.tempFault 1 + flagAt m.clamped 2 + flagAt uncalibrated 3) ++ put 1 0

theorem meteringBytes_eq (m : Metering) (uncalibrated : Bool) : meteringBytes m uncalibrated = meteringWord m uncalibrated := by
  simp only [meteringBytes, meteringWord, flagsField_eq_put, oneByte_eq_put, leBytes_eq_put, absentMarker, flagsNumber_four]

/-- The configuration's and the volume table's bytes (section 12.5). -/
def settingsWord (c : StationConfig) (v : VolumeTable) : List Byte :=
  put 2 c.expectedInk ++ put 4 c.defaultCapacity ++ put 4 c.swapReserve ++ put 4 c.cycleCeiling ++ put 1 c.inkSenseEnable.toNat ++ put 1 0
    ++ put 2 v.volumes.small ++ put 2 v.volumes.medium ++ put 2 v.volumes.large ++ put 2 v.volumes.service
    ++ put 2 v.factors[0] ++ put 2 v.factors[1] ++ put 2 v.factors[2] ++ put 2 v.factors[3] ++ put 2 v.factors[4]

theorem settingsWord_eq (c : StationConfig) (v : VolumeTable) :
    stationConfigBytes c ++ oneByte 0 ++ volumeBytes v = settingsWord c v := by
  simp only [stationConfigBytes_eq_put, volumeBytes_eq_put, settingsWord, oneByte_eq_put, ← List.append_assoc]

/-- The station's flags as one byte (section 12.5). -/
theorem stationFlags_eq (s : State) (i : Station) :
    flagsNumber [(s.station i).debouncedPresence, (s.station i).removalTimer, (s.station i).ink.reading.isSome,
        (s.station i).ink.reading.getD false, (s.station i).ink.baseline.isSome, (s.station i).ink.baseline.getD false,
        (s.context i).isSome, ((s.context i).map (·.recheck)).getD false] =
      flagAt (decide ((s.station i).lifecycle ≠ .vacant ∧ (s.station i).lifecycle ≠ .seated)) 0 + flagAt (s.station i).removalTimer 1
        + flagAt (s.station i).ink.reading.isSome 2 + flagAt (decide ((s.station i).ink.reading = some true)) 3
        + flagAt (s.station i).ink.baseline.isSome 4 + flagAt (decide ((s.station i).ink.baseline = some true)) 5
        + flagAt (s.context i).isSome 6 + flagAt ((s.context i).any (·.recheck)) 7 := by
  have hpresence : (s.station i).debouncedPresence = decide ((s.station i).lifecycle ≠ .vacant ∧ (s.station i).lifecycle ≠ .seated) := by
    rw [StationRec.debouncedPresence]
    cases (s.station i).lifecycle <;> rfl
  rw [flagsNumber_eight, hpresence, getD_eq_decide, getD_eq_decide, recheck_eq_any]

/-- GET_STATION's bytes (section 12.5). -/
def stationWord (s : State) (i : Station) : List Byte :=
  let r := s.station i
  put 1 i.val ++ put 1 (lifecycleCode r.lifecycle)
    ++ put 1 (flagAt (decide (r.lifecycle ≠ .vacant ∧ r.lifecycle ≠ .seated)) 0 + flagAt r.removalTimer 1
      + flagAt r.ink.reading.isSome 2 + flagAt (decide (r.ink.reading = some true)) 3 + flagAt r.ink.baseline.isSome 4
      + flagAt (decide (r.ink.baseline = some true)) 5 + flagAt (s.context i).isSome 6 + flagAt ((s.context i).any (·.recheck)) 7)
    ++ contextWord (s.context i) ++ recordWord r.cartridge ++ meteringWord r.meter (!r.volumes.valid) ++ settingsWord r.config r.volumes

theorem stationBody_eq (s : State) (i : Station) : stationBody s i = stationWord s i := by
  simp only [stationBody, stationWord, oneByte_eq_put i.val, oneByte_eq_put (lifecycleCode _), flagsField_eq_put, stationFlags_eq,
    contextWord_eq, cartridgeBytes_eq, meteringBytes_eq, ← settingsWord_eq, ← List.append_assoc]

theorem length_stationWord (s : State) (i : Station) : (stationWord s i).length = 126 := by
  simp only [stationWord, List.length_append, length_put, length_contextWord, length_recordWord, meteringWord, settingsWord]

/-- Settles O28, by the layout's parts. -/
theorem getStationReportsThenClearsFlags : Obligations.GetStationReportsThenClearsFlags := by
  intro s i tag n rest hh hn
  have hexec : goesTo (exec .getStation s) (s.ownGetStation ⟨.getStation, tag, n :: rest⟩) :=
    congrArg Host.Outcome.next (serve_of_handed hh State.ownGetStation)
  rw [State.ownGetStation, bodyStation_cons hn, answer_eq, stationBody_eq] at hexec
  exact ⟨length_stationWord s i, hexec⟩

end Sys2Proof.Laws
end

section
set_option Elab.async false
/-! PROOFS. Power, reset and start-up (chapter 11): what a start-up folds, writes and begins with (O4, O5), what a loss of power leaves (O6), and a
restart from HALTED (O11). -/

namespace Sys2Proof.Laws

open Sys2Proof.Machine Sys2Proof.Safety

/-! ## Operations of one station after another -/

/-- An operation on the records of the stations in a list: each station's record is changed once, by its own operation. -/
theorem foldl_modStation (g : Station → StationRec → StationRec) (stations : List Station) (hd : stations.Nodup) (s : State) :
    ∃ records, stations.foldl (fun s i => s.modStation i (g i)) s = s.withStations records ∧
      ∀ k : Station, records[k] = if k ∈ stations then g k (s.station k) else s.station k := by
  induction stations generalizing s with
  | nil => exact ⟨s.stations, rfl, fun k => by simp [State.station]⟩
  | cons i rest ih =>
    obtain ⟨hnew, hrest⟩ := List.nodup_cons.mp hd
    obtain ⟨records, hfold, hrecords⟩ := ih hrest (s.modStation i (g i))
    refine ⟨records, hfold.trans rfl, fun k => ?_⟩
    rw [hrecords k]
    by_cases hk : k = i
    · subst hk
      simp [hnew]
    · simp [hk, modStation_station_other hk]

/-! ## The fold of the held checkpoints -/

/-- Two states hold the same departed table, events and writes. -/
structure SameTable (a b : State) : Prop where
  departed : a.departed = b.departed
  events : a.events = b.events
  writes : a.writes = b.writes

theorem accountEntered_sameTable {a b : State} (h : SameTable a b) (i : Station) (k : Checkpoint) :
    SameTable (accountEntered a i k) (accountEntered b i k) := by
  obtain ⟨hdeparted, hevents, hwrites⟩ := h
  simp only [accountEntered, hdeparted, hevents, hwrites]
  exact ⟨rfl, rfl, rfl⟩

/-- A checkpoint of a store, where it is held, entered in the departed table. -/
def heldEntered (m : Retained) (t : State) (i : Station) : State :=
  match m.checkpoints[i] with
  | some k => accountEntered t i k
  | none => t

theorem heldEntered_sameTable {a b : State} (h : SameTable a b) (m : Retained) (i : Station) :
    SameTable (heldEntered m a i) (heldEntered m b i) := by
  unfold heldEntered
  split
  · exact accountEntered_sameTable h i _
  · exact h

theorem foldl_heldEntered_sameTable (m : Retained) (stations : List Station) {a b : State} (h : SameTable a b) :
    SameTable (stations.foldl (heldEntered m) a) (stations.foldl (heldEntered m) b) := by
  induction stations generalizing a b with
  | nil => exact h
  | cons i rest ih => exact ih (heldEntered_sameTable h m i)

theorem insertDeparted_clearCheckpoint_eq (s : State) (i : Station) (k : Checkpoint) :
    (s.insertDeparted (k.entry i)).clearCheckpoint i = accountEntered s i k := by
  simp only [accountEntered, State.insertDeparted, Checkpoint.entry, State.clearCheckpoint, State.requestWrite]
  cases s.departed.evicted k.serial <;> simp [State.raise, State.withEvents, State.withDeparted, State.withWrites]

theorem foldCheckpoint_eq (s : State) (i : Station) : s.foldCheckpoint i = heldEntered s.store s i := by
  unfold State.foldCheckpoint heldEntered
  cases s.store.checkpoints[i] with
  | none => rfl
  | some k => exact insertDeparted_clearCheckpoint_eq s i k

/-- Entering figures changes the departed table, the events and the writes, and nothing else. -/
theorem accountEntered_eq_with (s : State) (i : Station) (k : Checkpoint) : ∃ table events writes,
    accountEntered s i k = ((s.withDeparted table).withEvents events).withWrites writes := ⟨_, _, _, rfl⟩

theorem heldEntered_eq_with (m : Retained) (s : State) (i : Station) : ∃ table events writes,
    heldEntered m s i = ((s.withDeparted table).withEvents events).withWrites writes := by
  unfold heldEntered
  split
  · exact accountEntered_eq_with s i _
  · exact ⟨s.departed, s.events, s.writes, rfl⟩

theorem foldl_heldEntered_eq_with (m : Retained) (stations : List Station) (s : State) : ∃ table events writes,
    stations.foldl (heldEntered m) s = ((s.withDeparted table).withEvents events).withWrites writes := by
  induction stations generalizing s with
  | nil => exact ⟨s.departed, s.events, s.writes, rfl⟩
  | cons i rest ih =>
    obtain ⟨table, events, writes, hfirst⟩ := heldEntered_eq_with m s i
    obtain ⟨table', events', writes', hrest⟩ := ih (heldEntered m s i)
    exact ⟨table', events', writes', by rw [List.foldl_cons, hrest, hfirst]; rfl⟩

/-- Every station's checkpoint folded, in station order (R188). -/
theorem forStations_foldCheckpoint_eq (s : State) : s.forStations State.foldCheckpoint = stationList.foldl (heldEntered s.store) s := by
  have hfold : ∀ (stations : List Station) (t : State), t.store = s.store →
      stations.foldl State.foldCheckpoint t = stations.foldl (heldEntered s.store) t := by
    intro stations
    induction stations with
    | nil => exact fun t _ => rfl
    | cons i rest ih =>
      intro t ht
      obtain ⟨table, events, writes, hfirst⟩ := heldEntered_eq_with s.store t i
      rw [List.foldl_cons, List.foldl_cons, foldCheckpoint_eq, ht]
      exact ih _ (by rw [hfirst]; exact ht)
  exact hfold stationList s rfl

theorem foldedFrom_eq (s : State) (m : Retained) :
    foldedFrom s m = stationList.foldl (heldEntered m) (((s.withDeparted m.departed).withEvents EventQueue.initial).withWrites []) := rfl

/-! ## The event queue of a start-up -/

/-- A queue that has taken at most `n` events since it began: nothing is lost, masked or disarmed. -/
structure Unlost (n : Nat) (q : EventQueue) : Prop where
  short : q.entries.length ≤ n
  lost : q.lost = false
  mask : q.mask = 0
  armed : q.armed = Vector.replicate 30 true

theorem unlost_initial : Unlost 0 EventQueue.initial := ⟨le_refl _, rfl, rfl, rfl⟩

/-- An event raised in a queue with room is not lost (R165). -/
theorem unlost_raise {n : Nat} {q : EventQueue} (h : Unlost n q) (hn : n < 32) (k : EventKind) (p : Place) (v : Nat) :
    Unlost (n + 1) (q.raise none k p v) := by
  obtain ⟨hshort, hlost, hmask, harmed⟩ := h
  have hroom : q.entries.length < Config.eventSlots := lt_of_le_of_lt hshort hn
  rw [raise_of_armed (by simp [hmask]) (fun c hc => absurd hc (by simp)), if_pos hroom]
  split
  · exact ⟨(List.length_map _).trans_le (by omega), hlost, hmask, harmed⟩
  · exact ⟨by simpa [EventQueue.disarm, EventQueue.append] using hshort, hlost, hmask, harmed⟩

theorem unlost_heldEntered {n : Nat} {s : State} (h : Unlost n s.events) (hn : n < 32) (m : Retained) (i : Station) :
    Unlost (n + 1) (heldEntered m s i).events := by
  have hkept : Unlost (n + 1) s.events := ⟨by have := h.short; omega, h.lost, h.mask, h.armed⟩
  unfold heldEntered
  split
  · next k _ =>
    simp only [accountEntered, State.withWrites_events, State.withDeparted_events, State.withEvents_events]
    split
    · exact unlost_raise h hn _ _ _
    · exact hkept
  · exact hkept

theorem unlost_foldl_heldEntered (m : Retained) (stations : List Station) {n : Nat} {s : State} (h : Unlost n s.events)
    (hn : n + stations.length ≤ 32) : Unlost (n + stations.length) (stations.foldl (heldEntered m) s).events := by
  induction stations generalizing n s with
  | nil => exact h
  | cons i rest ih =>
    rw [List.length_cons] at hn ⊢
    have hrest := ih (unlost_heldEntered h (by omega) m i) (by omega)
    rwa [Nat.add_right_comm, Nat.add_assoc] at hrest

/-! ## The start-up -/

/-- The stations after the presence inputs have been sampled (R187 step 5). -/
theorem samplePresence_eq (s : State) : ∃ records, s.forStations State.samplePresence = s.withStations records ∧
    ∀ k : Station, records[k] = if s.presence[k] then (s.station k).seat s.inkInputs[k] else s.station k := by
  have hfold : ∀ (stations : List Station) (t : State), t.presence = s.presence → t.inkInputs = s.inkInputs →
      stations.foldl State.samplePresence t =
        stations.foldl (fun t i => t.modStation i (fun r => if s.presence[i] then r.seat s.inkInputs[i] else r)) t := by
    intro stations
    induction stations with
    | nil => exact fun t _ _ => rfl
    | cons i rest ih =>
      intro t hp hk
      have hstep : t.samplePresence i = t.modStation i (fun r => if s.presence[i] then r.seat s.inkInputs[i] else r) := by
        rw [State.samplePresence, hp, hk]
        by_cases hi : s.presence[i] = true
        · simp only [hi, if_true]
        · simp only [hi, if_false, State.modStation, Bool.false_eq_true]
          exact (setStation_self t i).symm
      rw [List.foldl_cons, List.foldl_cons, hstep]
      exact ih _ hp hk
  obtain ⟨records, heq, hrecords⟩ := foldl_modStation (fun i r => if s.presence[i] then r.seat s.inkInputs[i] else r) stationList
    (by decide) s
  refine ⟨records, (hfold stationList s rfl rfl).trans heq, fun k => ?_⟩
  rw [hrecords k, if_pos (by fin_cases k <;> decide)]

theorem volatileReset_station (s : State) (i : Station) : s.volatileReset.station i = StationRec.initial := by
  simp [State.station, State.volatileReset]

theorem initial_seat (input : Bool) : StationRec.initial.seat input = { StationRec.initial with lifecycle := .seated, seatTimer := true } := rfl

/-- The state of a start-up, by its parts. -/
theorem startUp_eq (s : State) : ∃ table events writes records,
    s.startUp = ((((s.volatileReset.withDeparted table).withEvents events).withWrites writes).withBus
      { Bus.initial with jobs := [Job.firstWake], lastHandle := 1 }).withStations records ∧
    (∀ k : Station, records[k] = if s.presence[k] then { StationRec.initial with lifecycle := .seated, seatTimer := true }
      else StationRec.initial) ∧
    ((foldedFrom s s.store).departed = table ∧ (foldedFrom s s.store).events = events ∧ (foldedFrom s s.store).writes = writes) := by
  obtain ⟨table, events, writes, hfold⟩ := foldl_heldEntered_eq_with s.store stationList s.volatileReset.readStore
  obtain ⟨u, hu⟩ : ∃ u, u = (s.volatileReset.readStore.forStations State.foldCheckpoint).requestWake := ⟨_, rfl⟩
  have hfolded : s.volatileReset.readStore.forStations State.foldCheckpoint =
      ((s.volatileReset.withDeparted table).withEvents events).withWrites writes :=
    (forStations_foldCheckpoint_eq _).trans hfold
  have hwoken : u = (((s.volatileReset.withDeparted table).withEvents events).withWrites writes).withBus
      { Bus.initial with jobs := [Job.firstWake], lastHandle := 1 } := by
    rw [hu, hfolded]
    rfl
  obtain ⟨records, hsampled, hrecords⟩ := samplePresence_eq u
  refine ⟨table, events, writes, records, ?_, fun k => ?_, ?_⟩
  · rw [State.startUp, ← hu, hsampled, hwoken]
  · have hstation : u.station k = StationRec.initial := by
      rw [hwoken]
      exact volatileReset_station s k
    have hpins : u.presence = s.presence := by rw [hwoken]; rfl
    rw [hrecords k, hstation, hpins, initial_seat]
  · have hsame : SameTable (foldedFrom s s.store) (stationList.foldl (heldEntered s.store) s.volatileReset.readStore) :=
      foldl_heldEntered_sameTable s.store stationList ⟨rfl, rfl, rfl⟩
    rw [hfold] at hsame
    exact ⟨hsame.departed, hsame.events, hsame.writes⟩

/-- A start-up starts the part from its store (R187, R188). -/
theorem startUp_startedFrom (s : State) (hpower : s.powered = true) (hreset : s.resetN = true) : startedFrom s s.store s.startUp := by
  obtain ⟨table, events, writes, records, ht, hrecords, hdeparted, hevents, hwrites⟩ := startUp_eq s
  have hunlost : Unlost 8 events := by
    rw [← hevents]
    exact unlost_foldl_heldEntered s.store stationList unlost_initial (by decide)
  refine ⟨?_, ?_, ?_, ?_⟩
  · rw [ht, hdeparted]
    exact {
      power := ⟨hpower, hreset, rfl⟩
      pins := ⟨rfl, rfl, rfl, rfl⟩
      link := rfl
      stations := fun i => hrecords i
      bus := rfl
      auth := ⟨fun i => by simp [State.context, State.volatileReset, Auth.initial], rfl, rfl⟩
      tally := rfl
      meter := rfl
      part := rfl
      departed := rfl
      events := ⟨hunlost.lost, hunlost.mask, fun k => ⟨by simp [hunlost.armed], by simp [State.volatileReset]⟩⟩ }
  · rw [ht, hevents]
    rfl
  · rw [ht]
    rfl
  · rw [ht, hwrites]
    rfl

/-- A start-up is described from any state with the same pins, draws and waiting commands. -/
theorem startedFrom_congr {s s' t : State} {m : Retained} (hpresence : s'.presence = s.presence) (hink : s'.inkInputs = s.inkInputs)
    (hpending : s'.pending = s.pending) (hdraws : s'.draws = s.draws) (h : startedFrom s m t) : startedFrom s' m t := by
  have hsame : SameTable (foldedFrom s' m) (foldedFrom s m) := foldl_heldEntered_sameTable m stationList ⟨rfl, rfl, rfl⟩
  obtain ⟨hstarted, hevents, hstore, hwrites⟩ := h
  refine ⟨?_, hevents.trans hsame.events.symm, hstore, hwrites.trans hsame.writes.symm⟩
  rw [hsame.departed]
  exact { hstarted with
    pins := by rw [hpresence, hink, hpending, hdraws]; exact hstarted.pins
    stations := fun i => by rw [hpresence]; exact hstarted.stations i }

section
variable {s : State}

theorem exec_powerOn_without_reset (hpower : s.powered = false) (hreset : s.resetN = false) :
    goesTo (exec .powerOn s) (s.withPowered true) := by
  simp [goesTo, exec, execPowerOn, hpower, hreset]

theorem exec_resetNRise_without_power (hpower : s.powered = false) (hreset : s.resetN = false) :
    goesTo (exec .resetNRise s) (s.withResetN true) := by
  simp [goesTo, exec, execResetNRise, hpower, hreset]

theorem exec_powerOn (hpower : s.powered = false) (hreset : s.resetN = true) :
    goesTo (exec .powerOn s) (s.withPowered true).startUp := by
  simp [goesTo, exec, execPowerOn, hpower, hreset]

theorem exec_resetNRise (hpower : s.powered = true) (hreset : s.resetN = false) :
    goesTo (exec .resetNRise s) (s.withResetN true).startUp := by
  simp [goesTo, exec, execResetNRise, hpower, hreset]

/-- POWER_ON and RESET_N_RISE that find the other level there start the part from its store. -/
theorem exec_starts {c : Instr} (hc : (c = .powerOn ∧ s.powered = false ∧ s.resetN = true) ∨
    (c = .resetNRise ∧ s.powered = true ∧ s.resetN = false)) : ∃ t, goesTo (exec c s) t ∧ startedFrom s s.store t := by
  obtain ⟨rfl, hpower, hreset⟩ | ⟨rfl, hpower, hreset⟩ := hc
  · exact ⟨_, exec_powerOn hpower hreset, startedFrom_congr (s := s.withPowered true) rfl rfl rfl rfl (startUp_startedFrom _ rfl hreset)⟩
  · exact ⟨_, exec_resetNRise hpower hreset, startedFrom_congr (s := s.withResetN true) rfl rfl rfl rfl (startUp_startedFrom _ hpower rfl)⟩

/-- With no checkpoint held the fold leaves the table as stored, no event and no write. -/
theorem foldedFrom_of_clear {m : Retained} (h : ∀ i : Station, m.checkpoints[i] = none) :
    foldedFrom s m = ((s.withDeparted m.departed).withEvents EventQueue.initial).withWrites [] := by
  have hkept : ∀ (stations : List Station) (t : State), stations.foldl (heldEntered m) t = t := by
    intro stations
    induction stations with
    | nil => exact fun t => rfl
    | cons i rest ih =>
      intro t
      rw [List.foldl_cons, heldEntered, h i]
      exact ih t
  rw [foldedFrom_eq, hkept]

end

/-- Settles O4, by the levels that are there and the fold of a store without checkpoints. -/
theorem powerAndResetStartThePart : Obligations.PowerAndResetStartThePart := by
  refine fun s => ⟨fun hpower hreset => ⟨exec_powerOn_without_reset hpower hreset, exec_resetNRise_without_power hpower hreset⟩,
    fun hclear c hc => ?_⟩
  obtain ⟨t, ht, hstarted, hevents, hstore, hwrites⟩ := exec_starts hc
  rw [foldedFrom_of_clear hclear] at hstarted hevents hwrites
  exact ⟨t, ht, hstarted, by rw [hevents]; rfl, by rw [hevents]; rfl, hstore, hwrites⟩

/-! ## A restart -/

theorem applyAll_eq (m : Retained) (writes : List StoreWrite) : m.applyAll writes = writes.foldl (fun m w => stored m w.item) m := by
  simp only [Retained.applyAll, apply_eq]

/-- The last reply after RESTART's answer starts the part afresh (R191 step 4). -/
theorem exec_replySent_starts {s : State} {r : Reply} (hs : up s) (hengine : s.link.engine = .stopped) (hreplies : s.link.replies = [r]) :
    ∃ t, goesTo (exec .replySent s) t ∧ startedFrom s (s.writes.foldl (fun m w => stored m w.item) s.store) t := by
  obtain ⟨hpower, hreset⟩ := hs
  have hsent : s.replySent =
      (s.withLink { s.link with replies := [], slots := s.link.slots.eraseP (·.taken) }).restartStartUp := by
    simp only [State.replySent, hreplies, State.withLink_link, hengine]
  refine ⟨s.replySent, exec_replySent ⟨hpower, hreset⟩, ?_⟩
  rw [hsent, ← applyAll_eq]
  exact startedFrom_congr (s := ((s.withLink { s.link with replies := [], slots := s.link.slots.eraseP (·.taken) }).withStore
    (s.store.applyAll s.writes)).withWrites []) rfl rfl rfl rfl (startUp_startedFrom _ hpower hreset)

/-- Settles O5, by the three rows that start the part. -/
theorem startUpFoldsCheckpoint : Obligations.StartUpFoldsCheckpoint := by
  rintro s c (hpower | hreset | ⟨rfl, hs, hengine, hlength, hwrites⟩)
  · exact exec_starts (.inl hpower)
  · exact exec_starts (.inr hreset)
  · obtain ⟨r, hreplies⟩ := List.length_eq_one_iff.mp hlength
    have hstarts := exec_replySent_starts hs hengine hreplies
    rwa [hwrites] at hstarts

/-! ## A loss of power -/

/-- A write's item leaves the secrets and the part ID (R186). -/
theorem stored_keeps (m : Retained) (item : StoreItem) :
    (stored m item).keySlots.map (·.secret) = m.keySlots.map (·.secret) ∧ (stored m item).partId = m.partId := by
  cases item with
  | keyRevoked k =>
    refine ⟨?_, rfl⟩
    ext j hj
    simp only [stored, Vector.getElem_map, Vector.getElem_set]
    split_ifs with h
    · subst h; rfl
    · rfl
  | departed t => exact ⟨rfl, rfl⟩
  | checkpoint i c => exact ⟨rfl, rfl⟩

/-- What a loss of power leaves of the store: as it was, or with the write in progress landed whole (R186). -/
theorem interruptStore_eq (s : State) (landed : Bool) : ∃ m, s.interruptStore landed = (s.withStore m).withWrites [] ∧
    (s.writes = [] ∨ landed = false → m = s.store) ∧
    (∀ item b rest, s.writes = ⟨item, b⟩ :: rest → landed = true → m = stored s.store item) ∧
    m.keySlots.map (·.secret) = s.store.keySlots.map (·.secret) ∧ m.partId = s.store.partId := by
  unfold State.interruptStore
  cases hw : s.writes with
  | nil =>
    have hself : s = (s.withStore s.store).withWrites [] := by rw [← hw]; rfl
    exact ⟨s.store, hself, fun _ => rfl, fun _ _ _ h => absurd h (by simp), rfl, rfl⟩
  | cons w rest =>
    cases landed with
    | false => exact ⟨s.store, rfl, fun _ => rfl, fun _ _ _ _ h => absurd h (by simp), rfl, rfl⟩
    | true =>
      refine ⟨stored s.store w.item, by simp [apply_eq], fun h => absurd h (by simp), fun item b rest' h _ => ?_,
        stored_keeps s.store w.item⟩
      rw [(List.cons.inj h).1]

/-- Everything volatile after the part went down is at its start-up value; the store, the pins, the draws and the waiting commands stay. -/
theorem goDown_eq (s : State) (landed : Bool) : ∃ m, s.goDown landed = (s.volatileReset).withStore m ∧
    (s.writes = [] ∨ landed = false → m = s.store) ∧
    (∀ item b rest, s.writes = ⟨item, b⟩ :: rest → landed = true → m = stored s.store item) ∧
    m.keySlots.map (·.secret) = s.store.keySlots.map (·.secret) ∧ m.partId = s.store.partId := by
  obtain ⟨m, heq, hm⟩ := interruptStore_eq s landed
  exact ⟨m, by rw [State.goDown, heq]; rfl, hm⟩

theorem attnN_of_empty {s : State} (h : s.events.entries = []) : s.attnN = true := by
  simp [State.attnN, State.attentionPending, h]

section
variable {s : State} {landed : Bool}

theorem exec_resetNFall_without_power (hreset : s.resetN = true) (hpower : s.powered = false) :
    goesTo (exec (.resetNFall landed) s) (s.withResetN false) := by
  simp [goesTo, exec, execResetNFall, hpower, hreset]

theorem exec_powerLoss (hpower : s.powered = true) : goesTo (exec (.powerLoss landed) s) ((s.goDown landed).withPowered false) := by
  simp [goesTo, exec, execPowerLoss, hpower]

theorem exec_resetNFall (hpower : s.powered = true) (hreset : s.resetN = true) :
    goesTo (exec (.resetNFall landed) s) ((s.goDown landed).withResetN false) := by
  simp [goesTo, exec, execResetNFall, hpower, hreset]

end

/-- Settles O6, by what the interrupted write leaves and the volatile state given up. -/
theorem powerLossKeepsOnlyTheStore : Obligations.PowerLossKeepsOnlyTheStore := by
  refine fun s landed => ⟨fun hreset hpower => exec_resetNFall_without_power hreset hpower, fun hpower c hc => ?_⟩
  obtain ⟨m, hdown, hold, hnew, hsecrets, hpart⟩ := goDown_eq s landed
  have hvolatile : ∀ i : Station, s.volatileReset.station i = StationRec.initial ∧ s.volatileReset.context i = none :=
    fun i => ⟨volatileReset_station s i, by simp [State.context, State.volatileReset, Auth.initial]⟩
  obtain rfl | ⟨rfl, hreset⟩ := hc
  · refine ⟨_, exec_powerLoss hpower, ?_⟩
    rw [hdown]
    exact ⟨fun _ => ⟨rfl, rfl⟩, fun h => absurd h (by simp), rfl, rfl, rfl, rfl, rfl, hsecrets, hpart, hold, hnew, rfl, rfl, rfl, rfl,
      hvolatile, rfl, rfl, rfl, rfl, rfl, rfl, rfl, attnN_of_empty rfl⟩
  · refine ⟨_, exec_resetNFall hpower hreset, ?_⟩
    rw [hdown]
    exact ⟨fun h => absurd h (by simp), fun _ => ⟨hpower, rfl⟩, rfl, rfl, rfl, rfl, rfl, hsecrets, hpart, hold, hnew, rfl, rfl, rfl, rfl,
      hvolatile, rfl, rfl, rfl, rfl, rfl, rfl, rfl, attnN_of_empty rfl⟩

end Sys2Proof.Laws
end

section
set_option Elab.async false
/-! PROOFS. The retained store's completions (O7, O8), SHUTDOWN (O10) and RESTART (O11). -/

namespace Sys2Proof.Laws

open Sys2Proof.Machine Sys2Proof.Safety

/-! ## A completed write -/

/-- A request that ends with an empty body (R178). -/
theorem answerDone_eq {kind : RequestKind} (hkind : kind ≠ .restart) (s : State) (tag : Byte) (body : List Byte) :
    s.answerDone ⟨kind, tag, body⟩ = replied s (BitVec.ofNat 8 (0x80 + requestCode kind)) tag .ok [] := by
  rw [State.answerDone, if_neg hkind, answer_eq]

/-- After RESTART's answer the engine takes no further frame (R191 step 3). -/
theorem answerDone_restart_eq (s : State) (tag : Byte) (body : List Byte) :
    s.answerDone ⟨.restart, tag, body⟩ = engineStopped (replied s 0x97 tag .ok []) := by
  rw [State.answerDone, if_pos rfl, answer_eq]
  rfl

section
variable {s : State} {rest : List StoreWrite} {item : StoreItem} {answers : Bool}

theorem exec_retainedStoreWriteComplete (hs : up s) : goesTo (exec .retainedStoreWriteComplete s) s.completeWrite :=
  congrArg Host.Outcome.next (whenRunning_of_up hs _)

theorem completeWrite_eq (hw : s.writes = ⟨item, answers⟩ :: rest) :
    s.completeWrite = (((s.withWrites rest).withStore (stored s.store item)).applyWritten item).answerWaiting answers := by
  simp only [State.completeWrite, hw, apply_eq]
  rfl

theorem answerWaiting_true {t : State} {r : Request} (h : t.link.engine = .awaiting r) : t.answerWaiting true = t.answerDone r := by
  simp only [State.answerWaiting, h]

theorem applyWritten_of_not_revocation (hitem : ∀ k, item ≠ .keyRevoked k) (t : State) : t.applyWritten item = t := by
  cases item with
  | keyRevoked k => exact absurd rfl (hitem k)
  | departed _ => rfl
  | checkpoint _ _ => rfl

end

/-- Settles O7, by the request that waits. -/
theorem storeWriteReplacesItsItem : Obligations.StoreWriteReplacesItsItem := by
  intro s rest item answers hs hw hitem
  have hexec := exec_retainedStoreWriteComplete hs
  rw [completeWrite_eq hw, applyWritten_of_not_revocation hitem] at hexec
  refine ⟨fun hanswers => ?_, fun tag body hanswers => ⟨fun hengine => ?_, fun hengine => ?_, fun hengine => ?_⟩⟩ <;>
    subst hanswers
  · exact hexec
  · rwa [answerWaiting_true (t := (s.withWrites rest).withStore (stored s.store item)) hengine, answerDone_eq (by decide)] at hexec
  · rwa [answerWaiting_true (t := (s.withWrites rest).withStore (stored s.store item)) hengine, answerDone_eq (by decide)] at hexec
  · rwa [answerWaiting_true (t := (s.withWrites rest).withStore (stored s.store item)) hengine, answerDone_restart_eq] at hexec

/-! ## A revocation -/

theorem enterQuarantined_station_other {i k : Station} (h : k ≠ i) (s : State) (cause : QuarantineCause) :
    (s.enterQuarantined i cause).station k = s.station k := by
  rw [State.enterQuarantined, raise_station, station_congr (s := s.modStation i (StationRec.quarantined cause)) (by simp)]
  exact modStation_station_other h _

/-- A revocation's effect at a station, by the record before it (R74). -/
def revokedAt (s : State) (slot : KeySlot) (t : State) (i : Station) : State :=
  match (s.station i).cartridge with
  | some c =>
    if (s.station i).lifecycle = .active ∧ c.identity.map (·.keyIndex) = some slot.val then toQuarantine t i c .keyRevoked 6 else t
  | none => t

theorem revokeAt_eq {s t : State} {i : Station} (h : t.station i = s.station i) (slot : KeySlot) :
    t.revokeAt slot i = revokedAt s slot t i := by
  unfold State.revokeAt revokedAt
  rw [h]
  cases hc : (s.station i).cartridge with
  | none => simp
  | some c =>
    rw [enterQuarantined_eq (c := c) .keyRevoked (h ▸ hc)]
    rfl

theorem revokeAt_station_other {i k : Station} (h : k ≠ i) (s : State) (slot : KeySlot) :
    (s.revokeAt slot i).station k = s.station k := by
  unfold State.revokeAt
  split
  · exact enterQuarantined_station_other h s _
  · rfl

theorem revokeAt_link (s : State) (slot : KeySlot) (i : Station) : (s.revokeAt slot i).link = s.link := by
  unfold State.revokeAt
  split <;> simp

theorem forStations_revokeAt_link (s : State) (slot : KeySlot) : (s.forStations (State.revokeAt slot)).link = s.link := by
  have hfold : ∀ (stations : List Station) (t : State), (stations.foldl (State.revokeAt slot) t).link = t.link := by
    intro stations
    induction stations with
    | nil => exact fun t => rfl
    | cons i rest ih => exact fun t => (ih _).trans (revokeAt_link t slot i)
  exact hfold stationList s

/-- The stations are reached one after another, each as it was before (R74). -/
theorem forStations_revokeAt_eq {s t : State} (h : ∀ i, t.station i = s.station i) (slot : KeySlot) :
    t.forStations (State.revokeAt slot) = stationList.foldl (revokedAt s slot) t := by
  have hfold : ∀ (stations : List Station), stations.Nodup → ∀ t : State, (∀ i ∈ stations, t.station i = s.station i) →
      stations.foldl (State.revokeAt slot) t = stations.foldl (revokedAt s slot) t := by
    intro stations
    induction stations with
    | nil => exact fun _ t _ => rfl
    | cons i rest ih =>
      intro hd t ht
      obtain ⟨hnew, hrest⟩ := List.nodup_cons.mp hd
      rw [List.foldl_cons, List.foldl_cons, ← revokeAt_eq (ht i (by simp))]
      refine ih hrest _ fun k hk => ?_
      have hki : k ≠ i := fun h => hnew (h ▸ hk)
      rw [revokeAt_station_other hki, ht k (by simp [hk])]
  exact hfold stationList (by decide) t fun i _ => h i

/-- Settles O8, by the fold over the stations. -/
theorem revocationReachesEveryActiveStation : Obligations.RevocationReachesEveryActiveStation := by
  intro s k answers rest hs hw
  have hexec := exec_retainedStoreWriteComplete hs
  rw [completeWrite_eq hw, State.applyWritten] at hexec
  have hlink := forStations_revokeAt_link ((s.withWrites rest).withStore (stored s.store (.keyRevoked k))) k
  rw [forStations_revokeAt_eq (s := s) (t := (s.withWrites rest).withStore _) fun i => rfl] at hexec hlink
  refine ⟨fun hanswers => ?_, fun tag body hanswers hengine => ?_⟩ <;> subst hanswers
  · exact hexec
  · rw [answerWaiting_true ((congrArg HostLink.engine hlink).trans hengine), answerDone_eq (by decide)] at hexec
    exact hexec

/-! ## The halt -/

/-- The blocks stopped (R189 step 1). -/
theorem stop_eq (s : State) : s.stop =
    ((((s.withOperating .halted).withTally { s.tally with buffer := none, cycleTimer := none, silenceTimer := false }).withAuth
      { s.auth with fifo := [], computing := none }).withBus { s.bus with
        jobs := (s.bus.jobs.filter (fun j => j.state = .active ∧ s.bus.condition = .own)).map (toBeCut .shutdown), results := [] }).withStations
      (s.stations.map (fun r => { r with seatTimer := false, removalTimer := false, ink := { r.ink with settle := false } })) := by
  have honBus : s.bus.onBus = fun j => decide (j.state = .active ∧ s.bus.condition = .own) := by
    funext j
    simp [Bus.onBus, Bool.beq_eq_decide_eq]
  simp only [State.stop, Bus.shutdown, honBus, funext (marked_eq .shutdown)]
  rfl

/-- The checkpoints of a halt (R189 step 2). -/
theorem haltWrites_eq (s : State) : s.haltWrites = (checkpointsDue s).map (fun x => ⟨x, false⟩) := by
  have hdue : ∀ i, s.haltCheckpoint i =
      (let r := s.station i
      if r.lifecycle = .active ∨ r.lifecycle = .quarantined ∨ r.lifecycle = .departing then
        (r.cartridge.bind accountOf).map (fun c => .checkpoint i (some c))
      else none) := fun i => by
    simp only [State.haltCheckpoint, State.checkpointOf, ← funext checkpoint_eq]
    cases (s.station i).lifecycle <;> rfl
  rw [State.haltWrites, funext hdue]
  rfl

theorem stop_station (s : State) (i : Station) : s.stop.station i = (s.station i).stopTimers := by simp [State.stop, State.station]

/-- Stopping leaves what the checkpoints are taken from. -/
theorem checkpointsDue_stop (s : State) : checkpointsDue s.stop = checkpointsDue s := by
  simp only [checkpointsDue, stop_station]
  rfl

section
variable {s : State} {kind : RequestKind} {tag : Byte} {body : List Byte} {before : List StoreWrite}

/-- A request that waits for some writes, of which there is a last one, with the checkpoints due behind those before it. -/
theorem answerAfter_items (s : State) (r : Request) (before awaited : List StoreWrite) (items : List StoreItem) (last : StoreItem) :
    s.answerAfter r before (awaited ++ (items ++ [last]).map (fun x => ⟨x, false⟩)) =
      (s.withWrites (before ++ awaited ++ items.map (fun x => ⟨x, false⟩) ++ [⟨last, true⟩])).await r := by
  rw [List.map_append, List.map_singleton, ← List.append_assoc, answerAfter_append, ← List.append_assoc]

end

section
variable {s : State} {tag : Byte} {body : List Byte}

theorem exec_shutdown (hh : handed s .shutdown tag body) :
    goesTo (exec .shutdown s) (s.stop.answerAfter ⟨.shutdown, tag, body⟩ s.writes ((checkpointsDue s).map (fun x => ⟨x, false⟩))) := by
  have hexec : goesTo (exec .shutdown s) (s.ownShutdown ⟨.shutdown, tag, body⟩) :=
    congrArg Host.Outcome.next (serve_of_handed hh State.ownShutdown)
  rwa [State.ownShutdown, State.checkpointForShutdown, haltWrites_eq, checkpointsDue_stop] at hexec

theorem exec_restart_operating (hh : handed s .restart tag body) (hop : s.operating = .operating) :
    goesTo (exec .restart s)
      (s.stop.answerAfter ⟨.restart, tag, body⟩ [] (s.writes ++ (checkpointsDue s).map (fun x => ⟨x, false⟩))) := by
  have hexec : goesTo (exec .restart s) (s.ownRestart ⟨.restart, tag, body⟩) :=
    congrArg Host.Outcome.next (serve_of_handed hh State.ownRestart)
  rw [State.ownRestart, hop] at hexec
  simp only [State.checkpointForRestart, haltWrites_eq, checkpointsDue_stop] at hexec
  exact hexec

theorem exec_restart_halted (hh : handed s .restart tag body) (hop : s.operating = .halted) :
    goesTo (exec .restart s)
      (s.answerAfter ⟨.restart, tag, body⟩ [] (s.writes ++ (checkpointsDue s).map (fun x => ⟨x, false⟩))) := by
  have hexec : goesTo (exec .restart s) (s.ownRestart ⟨.restart, tag, body⟩) :=
    congrArg Host.Outcome.next (serve_of_handed hh State.ownRestart)
  rw [State.ownRestart, hop] at hexec
  simp only [State.checkpointForRestart, haltWrites_eq] at hexec
  exact hexec

end

/-- The three ways of RESTART's answer: at once, after the last write requested before, or after the last checkpoint. -/
theorem restart_answers {o : Host.Outcome State Fault Refusal} {t : State} {tag : Byte} {body : List Byte} {writes : List StoreWrite}
    {due : List StoreItem} (h : goesTo o (t.answerAfter ⟨.restart, tag, body⟩ [] (writes ++ due.map (fun x => ⟨x, false⟩)))) :
    (due = [] → writes = [] → goesTo o (engineStopped (replied t 0x97 tag .ok []))) ∧
    (due = [] → ∀ earlier last, writes = earlier ++ [last] →
      goesTo o ((t.withWrites (earlier ++ [{ last with answers := true }])).await ⟨.restart, tag, body⟩)) ∧
    (∀ items last, due = items ++ [last] →
      goesTo o ((t.withWrites (writes ++ items.map (fun x => ⟨x, false⟩) ++ [⟨last, true⟩])).await ⟨.restart, tag, body⟩)) := by
  refine ⟨fun hdue hwrites => ?_, fun hdue earlier last hwrites => ?_, fun items last hdue => ?_⟩
  · subst hdue hwrites
    rwa [List.map_nil, List.append_nil, answerAfter_nil, answerDone_restart_eq] at h
  · subst hdue hwrites
    rwa [List.map_nil, List.append_nil, answerAfter_append, List.nil_append] at h
  · subst hdue
    rwa [answerAfter_items, List.nil_append] at h

/-- Settles O10, by the checkpoints due. -/
theorem shutdownHaltsAndCheckpoints : Obligations.ShutdownHaltsAndCheckpoints := by
  intro s tag body halted waits
  have hhalted : s.stop = halted := stop_eq s
  refine ⟨fun hh => ?_, fun hh hop => ?_⟩
  · have hexec := exec_shutdown hh
    rw [hhalted] at hexec
    refine ⟨fun hdue => ?_, fun items last hdue => ?_⟩
    · rwa [hdue, List.map_nil, answerAfter_nil, answerDone_eq (by decide)] at hexec
    · have hanswer := answerAfter_items halted ⟨.shutdown, tag, body⟩ s.writes [] items last
      rw [List.nil_append, List.append_nil] at hanswer
      rwa [hdue, hanswer] at hexec
  · have hexec := exec_restart_operating hh hop
    rw [hhalted] at hexec
    exact restart_answers hexec

/-- Settles O11, by the writes that wait and the last reply. -/
theorem restartFromHaltedStartsAfresh : Obligations.RestartFromHaltedStartsAfresh :=
  ⟨fun _ _ _ hh hop => restart_answers (exec_restart_halted hh hop), fun _ _ hs hengine hreplies =>
    exec_replySent_starts hs hengine hreplies⟩

end Sys2Proof.Laws
end

section
set_option Elab.async false
/-! PROOFS. The departed table's insertion (O41), write-back requests (O32), and the requests RELEASE (O31), AUTHENTICATE (O33), TAG_READ and TAG_WRITE
(O35) and ABORT_JOB (O37). -/

namespace Sys2Proof.Laws

open Sys2Proof.Machine Sys2Proof.Safety

/-! ## The departed table -/

theorem renumberFrom_eq_mapIdx (entries : List DepartedEntry) (n : Nat) :
    renumberFrom n entries = entries.mapIdx (fun m (y : DepartedEntry) => { y with sequence := n + m }) := by
  induction entries generalizing n with
  | nil => rfl
  | cons e rest ih =>
    rw [renumberFrom, ih, List.mapIdx_cons]
    congr 2
    funext m y
    rw [Nat.add_assoc, Nat.add_comm 1]

section
variable {t : DepartedTable} {e : DepartedEntry}

theorem remove_of_absent (h : ∀ x ∈ t.entries, x.serial ≠ e.serial) : (t.remove e.serial).entries = t.entries :=
  List.filter_eq_self.mpr fun x hx => by simpa using h x hx

theorem remove_of_present {pre post : List DepartedEntry} {old : DepartedEntry} (ht : t.entries = pre ++ old :: post)
    (hold : old.serial = e.serial) (hother : ∀ x ∈ pre ++ post, x.serial ≠ e.serial) :
    (t.remove e.serial).entries = pre ++ post := by
  have hkept : (pre ++ post).filter (fun x => x.serial != e.serial) = pre ++ post :=
    List.filter_eq_self.mpr fun x hx => by simpa using hother x hx
  rw [← hkept]
  simp [DepartedTable.remove, ht, hold]

theorem lookup_of_present {pre post : List DepartedEntry} {old : DepartedEntry} (ht : t.entries = pre ++ old :: post)
    (hold : old.serial = e.serial) (hother : ∀ x ∈ pre ++ post, x.serial ≠ e.serial) : t.lookup e.serial = some old :=
  List.find?_eq_some_iff_append.mpr ⟨by simpa using hold, pre, post, ht, fun x hx => by
    simpa using hother x (List.mem_append_left post hx)⟩

/-- The entry put at the tail of the entries that stay (R146, R147 step 3). -/
theorem append_eq (t : DepartedTable) (e : DepartedEntry) : t.append e =
    if t.nextSequence = 4294967295 then
      { entries := (t.entries ++ [{ e with sequence := t.nextSequence }]).mapIdx (fun n (y : DepartedEntry) => { y with sequence := n })
        nextSequence := (t.entries ++ [{ e with sequence := t.nextSequence }]).length }
    else { entries := t.entries ++ [{ e with sequence := t.nextSequence }], nextSequence := t.nextSequence + 1 } := by
  have hnumbers (xs : List DepartedEntry) : renumberFrom 0 xs = xs.mapIdx (fun n (y : DepartedEntry) => { y with sequence := n }) := by
    simp only [renumberFrom_eq_mapIdx, Nat.zero_add]
  rw [DepartedTable.append, hnumbers]
  rfl

theorem join_eq (a b : AccountClass) : a.join b = if a = .refilled ∨ b = .refilled then .refilled else .genuine := by
  cases a <;> cases b <;> rfl

end

/-- Settles O41, by what the table holds of the serial and by its places. -/
theorem insertionMergesEvictsAndAppends : Obligations.InsertionMergesEvictsAndAppends := by
  intro t e place
  have hplace (kept : List DepartedEntry) (x : DepartedEntry) : DepartedTable.append { t with entries := kept } x = place kept x :=
    append_eq _ x
  refine ⟨fun pre old post ht hold hother hroom => ?_, fun habsent => ⟨fun hroom => ⟨?_, ?_⟩, fun head tail ht hfull => ⟨?_, ?_⟩⟩⟩
  · have hmerged : t.merged e = e.mergeOld old := by rw [DepartedTable.merged, lookup_of_present ht hold hother]
    rw [DepartedTable.insert, remove_of_present ht hold hother, if_pos (show _ < Config.departedSlots from hroom), hmerged, hplace,
      DepartedEntry.mergeOld, join_eq]
    rfl
  all_goals have hmerged : t.merged e = e := by rw [DepartedTable.merged, lookup_eq_none habsent]
  · rw [DepartedTable.insert, remove_of_absent habsent, if_pos (show _ < Config.departedSlots from hroom), hmerged, hplace]
  · rw [DepartedTable.evicted, remove_of_absent habsent, if_pos (show _ < Config.departedSlots from hroom)]
  · rw [DepartedTable.insert, remove_of_absent habsent, if_neg (show ¬ _ < Config.departedSlots from Nat.not_lt.mpr hfull), hmerged, ht,
      hplace]
    rfl
  · rw [DepartedTable.evicted, remove_of_absent habsent, if_neg (show ¬ _ < Config.departedSlots from Nat.not_lt.mpr hfull), ht]
    rfl

/-! ## Write-back requests -/

/-- A job joins the tail under the next handle (R41). -/
theorem enqueue_eq {s : State} {h : Nat} (hf : nextFree s h) (j : Job) :
    s.enqueue j = s.withBus { s.bus with jobs := s.bus.jobs ++ [{ j with handle := h }], lastHandle := h } := by
  rw [State.enqueue, Bus.enqueue, nextHandle_of_nextFree hf]

theorem isWriteBackOf_iff (i : Station) (j : Job) : j.isWriteBackOf i = true ↔ j.kind = .writeUsage ∧ j.target = some i := by
  simp [Job.isWriteBackOf]

theorem any_isWriteBackOf (jobs : List Job) (i : Station) :
    jobs.any (Job.isWriteBackOf i) = true ↔ ∃ j ∈ jobs, j.kind = .writeUsage ∧ j.target = some i := by
  simp only [List.any_eq_true, isWriteBackOf_iff]

/-- Settles O32, by whether the station has a write-back in the queue. -/
theorem writeBackRequestsMerge : Obligations.WriteBackRequestsMerge := by
  intro s i cls hcls
  refine ⟨fun hnone h hf => ?_, fun pre j post hjobs hkind htarget hother => ?_⟩
  · have hany : s.bus.jobs.any (Job.isWriteBackOf i) = false := by
      rw [← Bool.not_eq_true, any_isWriteBackOf]
      exact fun ⟨j, hj, hof⟩ => hnone j hj hof
    refine ⟨{ Job.fresh (some i) .writeUsage cls with handle := h }, ?_, rfl, rfl, rfl, rfl, rfl, rfl, rfl, rfl, rfl, rfl, rfl⟩
    rw [State.requestWriteBack, hany, if_neg (by decide), enqueue_eq hf]
  · have hany : s.bus.jobs.any (Job.isWriteBackOf i) = true :=
      (any_isWriteBackOf _ i).mpr ⟨j, by simp [hjobs], hkind, htarget⟩
    have hkept : ∀ xs : List Job, (∀ k ∈ xs, ¬ (k.kind = .writeUsage ∧ k.target = some i)) →
        xs.map (fun k => if k.isWriteBackOf i then k.mergeRequest cls else k) = xs := fun xs hxs => by
      have hsame : ∀ k ∈ xs, (if k.isWriteBackOf i then k.mergeRequest cls else k) = k := fun k hk =>
        if_neg (by simpa only [isWriteBackOf_iff] using hxs k hk)
      rw [List.map_congr_left hsame, List.map_id']
    have hmerged : j.mergeRequest cls = if j.state = .queued then { j with cls := if cls = .depart then .depart else j.cls }
        else { j with followOn := some (if j.followOn = some .depart then .depart else cls) } := rfl
    rw [State.requestWriteBack, if_pos hany, hjobs, List.map_append, List.map_cons,
      if_pos ((isWriteBackOf_iff i j).mpr ⟨hkind, htarget⟩), hkept pre fun k hk => hother k (by simp [hk]),
      hkept post fun k hk => hother k (by simp [hk]), hmerged]

/-- A write-back's withdrawal (R44). -/
theorem withdrawWriteBack_eq (s : State) (i : Station) :
    s.withdrawWriteBack i = s.withBus { s.bus with jobs := withdrawnJobs s.bus.jobs i } := by
  have hgoes : (fun j : Job => !(j.isWriteBackOf i && j.waits)) =
      fun j => decide ¬ (j.kind = .writeUsage ∧ j.target = some i ∧ (j.state = .queued ∨ j.state = .retry)) := by
    funext j
    simp [Job.isWriteBackOf, Job.waits, Bool.beq_eq_decide_eq, Bool.or_assoc]
  have hstays : (fun j : Job => if j.isWriteBackOf i = true then { j with disowned := true, followOn := none } else j) =
      fun j => if j.kind = .writeUsage ∧ j.target = some i then { j with disowned := true, followOn := none } else j := by
    funext j
    simp only [isWriteBackOf_iff]
  rw [State.withdrawWriteBack, hgoes, hstays]
  rfl

/-! ## RELEASE -/

theorem trusted_iff (t : TrustClass) : t.trusted = true ↔ t = .genuine ∨ t = .refilled := by cases t <;> decide

theorem withoutContext_station (s : State) (i k : Station) : (withoutContext s i).station k = s.station k := by
  rw [← abandonContext_eq]
  exact station_congr (by simp)

section
variable {s : State} {i : Station} {tag b : Byte} {rest : List Byte} (hh : handed s .release tag (b :: rest)) (hb : b.toNat = i.val)
include hh hb

theorem exec_release : goesTo (exec .release s) (match (s.station i).lifecycle with
    | .active | .quarantined => replied (s.release i) 0x86 tag .ok []
    | .vacant | .seated | .identifying | .authenticating | .departing | .released => replied s 0x86 tag .wrongState []) := by
  have hexec : goesTo (exec .release s) (s.ownRelease ⟨.release, tag, b :: rest⟩) :=
    congrArg Host.Outcome.next (serve_of_handed hh State.ownRelease)
  simp only [State.ownRelease, bodyStation_cons hb, answer_eq] at hexec
  cases hl : (s.station i).lifecycle <;> rw [hl] at hexec <;> exact hexec

theorem exec_release_refused (hactive : (s.station i).lifecycle ≠ .active) (hquarantined : (s.station i).lifecycle ≠ .quarantined) :
    goesTo (exec .release s) (replied s 0x86 tag .wrongState []) := by
  have hexec := exec_release hh hb
  cases hl : (s.station i).lifecycle with
  | active => exact absurd hl hactive
  | quarantined => exact absurd hl hquarantined
  | vacant | seated | identifying | authenticating | departing | released => rwa [hl] at hexec

theorem exec_release_taken (hl : (s.station i).lifecycle = .active ∨ (s.station i).lifecycle = .quarantined) :
    goesTo (exec .release s) (replied (s.release i) 0x86 tag .ok []) := by
  have hexec := exec_release hh hb
  obtain hl | hl := hl <;> rwa [hl] at hexec

end

/-- A release of a station with a record: by way of a final write-back or at once (R19). -/
theorem release_eq {s : State} {i : Station} {c : CartridgeRecord} (hc : (s.station i).cartridge = some c) : s.release i =
    let away (l : Lifecycle) :=
      (withoutContext s i).setStation i { s.station i with lifecycle := l, cartridge := some { c with cause := none } }
    if (s.station i).departs then (away .departing).requestWriteBack i .depart else away .released := by
  simp only [State.release, State.depart, State.releaseAtOnce, abandonContext_eq, State.modStation, withoutContext_station,
    StationRec.leave, hc, Option.map_some]

/-- Settles O31, by whether the station departs. -/
theorem releaseSendsTheCartridgeAway : Obligations.ReleaseSendsTheCartridgeAway := by
  intro s i tag b rest hh hb
  refine ⟨exec_release_refused hh hb, fun c hc => ⟨fun hdeparts => ?_, fun hreleased => ?_⟩⟩
  · have hexec := exec_release_taken hh hb (hdeparts.imp And.left And.left)
    have hd : (s.station i).departs = true := by
      obtain ⟨hl, ht⟩ | ⟨hl, ha⟩ := hdeparts
      · simp [StationRec.departs, hl, hc, (trusted_iff c.trust).mpr ht]
      · simp [StationRec.departs, hl, hc, ha]
    rw [release_eq hc, hd] at hexec
    exact hexec
  · have hexec := exec_release_taken hh hb (hreleased.imp And.left And.left)
    have hd : (s.station i).departs = false := by
      obtain ⟨hl, ht⟩ | ⟨hl, ha⟩ := hreleased
      · obtain ht | ht := ht <;> simp [StationRec.departs, hl, hc, ht, TrustClass.trusted]
      · simp [StationRec.departs, hl, hc, ha]
    rw [release_eq hc, hd] at hexec
    exact hexec

/-! ## AUTHENTICATE -/

/-- A reply takes nothing from the bus, the contexts and the stations, so that a context started before it or after it is the same. -/
theorem replied_contextStarted (s : State) (i : Station) (recheck : Bool) (h : Nat) (kind tag : Byte) (status : Status) (body : List Byte) :
    contextStarted (replied s kind tag status body) i recheck h = replied (contextStarted s i recheck h) kind tag status body := by
  have hbusy : authBusy (replied s kind tag status body) i ↔ authBusy s i := Iff.rfl
  simp only [contextStarted, hbusy]
  split_ifs <;> rfl

section
variable {s : State} {i : Station} {tag b : Byte} {rest : List Byte} (hh : handed s .authenticate tag (b :: rest)) (hb : b.toNat = i.val)
include hh hb

theorem exec_authenticate : goesTo (exec .authenticate s) (match (s.station i).lifecycle with
    | .active => if s.canRecheck i then replied (s.startContext i true) 0x8B tag .ok [] else replied s 0x8B tag .wrongState []
    | .quarantined | .released => (replied s 0x8B tag .ok []).reidentify i
    | .vacant | .seated | .identifying | .authenticating | .departing => replied s 0x8B tag .wrongState []) := by
  have hexec : goesTo (exec .authenticate s) (s.ownAuthenticate ⟨.authenticate, tag, b :: rest⟩) :=
    congrArg Host.Outcome.next (serve_of_handed hh State.ownAuthenticate)
  simp only [State.ownAuthenticate, bodyStation_cons hb, answer_eq] at hexec
  cases hl : (s.station i).lifecycle <;> rw [hl] at hexec <;> exact hexec

end

section
variable {s : State} {i : Station}

theorem canRecheck_of_context (h : s.context i ≠ none) : s.canRecheck i = false := by
  have hsome : s.hasContext i = true := Option.isSome_iff_ne_none.mpr h
  simp [State.canRecheck, hsome]

theorem canRecheck_of_trust (h : ∀ c, (s.station i).cartridge = some c → c.trust = .unverified ∨ c.trust = .pending) :
    s.canRecheck i = false := by
  unfold State.canRecheck
  cases hc : (s.station i).cartridge with
  | none => rfl
  | some c => obtain ht | ht := h c hc <;> simp [ht, TrustClass.trusted]

theorem canRecheck_of_trusted {c : CartridgeRecord} (hnone : s.context i = none) (hc : (s.station i).cartridge = some c)
    (ht : c.trust = .genuine ∨ c.trust = .refilled) : s.canRecheck i = true := by
  simp [State.canRecheck, State.hasContext, hnone, hc, (trusted_iff c.trust).mpr ht]

/-- A new holding at a station (R5, R11). -/
theorem enterIdentifying_eq {h : Nat} (hf : authBusy s i ∨ nextFree s h) :
    s.enterIdentifying i = contextStarted (s.setStation i
      { s.station i with lifecycle := .identifying, seatTimer := false, cartridge := some CartridgeRecord.fresh }) i false h :=
  startContext_eq (s := s.setStation i (s.station i).newHolding) false hf

end

section
variable {t : State} {i : Station}

theorem enteredAsDeparted_station (t : State) (i k : Station) : (enteredAsDeparted t i).station k = t.station k := by
  rw [← enterDeparted_eq]
  exact station_congr (by simp)

theorem enteredAsDeparted_bus (t : State) (i : Station) : (enteredAsDeparted t i).bus = t.bus := by
  rw [← enterDeparted_eq]
  simp

theorem reidentify_of_other
    (h : ∀ c, (t.station i).lifecycle = .quarantined → (t.station i).cartridge = some c → c.authenticated = false) :
    t.reidentify i = t.enterIdentifying i := by
  refine if_neg fun ⟨hl, ha⟩ => ?_
  cases hc : (t.station i).cartridge with
  | none => simp [hc] at ha
  | some c => simp [hc, h c hl hc] at ha

/-- An authenticated QUARANTINED cartridge departs before the new holding begins (R18). -/
theorem reidentify_of_authenticated {c : CartridgeRecord} (hl : (t.station i).lifecycle = .quarantined)
    (hc : (t.station i).cartridge = some c) (ha : c.authenticated = true) : t.reidentify i =
      ((enteredAsDeparted t i).withBus { t.bus with jobs := withdrawnJobs t.bus.jobs i }).enterIdentifying i := by
  rw [State.reidentify, if_pos ⟨hl, by simp [hc, ha]⟩, enterDeparted_eq, withdrawWriteBack_eq, enteredAsDeparted_bus]

end

/-- Settles O33, by lifecycle state, class and authentication. -/
theorem authenticateStartsAContext : Obligations.AuthenticateStartsAContext := by
  intro s i tag b rest h hh hb r held
  have hexec := exec_authenticate hh hb
  refine ⟨fun hrefused => ?_, fun hf => ⟨fun c hl hnone hc ht => ?_, fun hnew => ?_⟩, fun c hl hc ha => ?_⟩
  · obtain ⟨hactive, hquarantined, hreleased⟩ | ⟨hactive, hrefused⟩ := hrefused
    · cases hl : (s.station i).lifecycle with
      | active => exact absurd hl hactive
      | quarantined => exact absurd hl hquarantined
      | released => exact absurd hl hreleased
      | vacant | seated | identifying | authenticating | departing => rwa [hl] at hexec
    · have hcan : s.canRecheck i = false := hrefused.elim canRecheck_of_context canRecheck_of_trust
      rw [show (s.station i).lifecycle = .active from hactive, hcan] at hexec
      exact hexec
  · rw [show (s.station i).lifecycle = .active from hl, canRecheck_of_trusted hnone hc ht, startContext_eq true hf] at hexec
    exact hexec
  · have hgoes : goesTo (exec .authenticate s) ((replied s 0x8B tag .ok []).reidentify i) := by
      obtain hl | ⟨hl, -⟩ := hnew <;> rwa [show (s.station i).lifecycle = _ from hl] at hexec
    have hother : ∀ c, (s.station i).lifecycle = .quarantined → (s.station i).cartridge = some c → c.authenticated = false := by
      intro c hl hc
      obtain hreleased | ⟨-, hnone⟩ := hnew
      · exact absurd (hl.symm.trans hreleased) (by decide)
      · exact hnone c hc
    rw [reidentify_of_other (t := replied s 0x8B tag .ok []) hother, enterIdentifying_eq (s := replied s 0x8B tag .ok []) hf] at hgoes
    exact (replied_contextStarted (s.setStation i held) i false h 0x8B tag .ok []) ▸ hgoes
  · intro left withdrawn hf
    have hstation : ((left.withBus { s.bus with jobs := withdrawnJobs s.bus.jobs i }).station i) = s.station i :=
      enteredAsDeparted_station (replied s 0x8B tag .ok []) i i
    rw [show (s.station i).lifecycle = .quarantined from hl] at hexec
    simp only [reidentify_of_authenticated (t := replied s 0x8B tag .ok []) hl hc ha] at hexec
    have hidentified := enterIdentifying_eq (s := left.withBus { s.bus with jobs := withdrawnJobs s.bus.jobs i }) (i := i) (h := h) hf
    rw [hstation] at hidentified
    rw [← hidentified]
    exact hexec

end Sys2Proof.Laws
end

section
set_option Elab.async false
/-! PROOFS. Host jobs: TAG_READ and TAG_WRITE (O35), the end of a host job, and ABORT_JOB (O37). -/

namespace Sys2Proof.Laws

open Sys2Proof.Machine Sys2Proof.Safety

/-! ## TAG_READ and TAG_WRITE -/

section
variable {s : State} {h : Nat}

theorem queueHostJob_of_full (r : Request) (j : Job) (hfull : 4 ≤ s.bus.hostJobs) : s.queueHostJob r j = s.answer r .queueFull [] :=
  if_pos hfull

theorem queueHostJob_of_room (r : Request) (j : Job) (hroom : ¬ 4 ≤ s.bus.hostJobs) (hf : nextFree s h) :
    s.queueHostJob r j = (s.withBus { s.bus with jobs := s.bus.jobs ++ [{ j with handle := h }], lastHandle := h }).answer r .queued (put 1 h) := by
  rw [State.queueHostJob, if_neg hroom, enqueue_eq hf, nextHandle_of_nextFree hf, oneByte_eq_put]

end

theorem takesTagRead_eq (l : Lifecycle) : l.takesTagRead = decide (l = .active ∨ l = .quarantined ∨ l = .released) := by
  cases l <;> rfl

theorem takesTagWrite_eq (r : StationRec) :
    r.takesTagWrite = decide (r.lifecycle = .active ∧ ∀ x ∈ r.cartridge, x.trust ≠ .unverified) := by
  rw [StationRec.takesTagWrite]
  cases r.cartridge <;> cases r.lifecycle <;> simp [Bool.beq_eq_decide_eq]

/-- What a host request does by its three checks and the room for host jobs (R57, R58). -/
def hostRequest (s : State) (r : Request) (allowed inRange : Bool) (j : Job) : State :=
  if !allowed then s.answer r .wrongState [] else if !inRange then s.answer r .refused [] else s.queueHostJob r j

section
variable {s : State} {i : Station} {tag b offset : Byte} {data : List Byte} (hb : b.toNat = i.val)
include hb

theorem exec_tagRead {n : Byte} (hdata : data = [n]) (hh : handed s .tagRead tag (b :: offset :: data)) :
    goesTo (exec .tagRead s) (hostRequest s ⟨.tagRead, tag, b :: offset :: data⟩
      (decide ((s.station i).lifecycle = .active ∨ (s.station i).lifecycle = .quarantined ∨ (s.station i).lifecycle = .released))
      (decide (1 ≤ n.toNat ∧ n.toNat ≤ 32 ∧ offset.toNat + n.toNat ≤ 128))
      { Job.fresh (some i) .hostRead .host with offset := offset.toNat, length := n.toNat }) := by
  subst hdata
  have hexec : goesTo (exec .tagRead s) (s.ownTagRead ⟨.tagRead, tag, [b, offset, n]⟩) :=
    congrArg Host.Outcome.next (serve_of_handed hh State.ownTagRead)
  have hrange : (n.toNat < 1 ∨ 32 < n.toNat ∨ 127 < offset.toNat + n.toNat - 1) ↔
      (!decide (1 ≤ n.toNat ∧ n.toNat ≤ 32 ∧ offset.toNat + n.toNat ≤ 128)) = true := by
    simp only [Bool.not_eq_true', decide_eq_false_iff_not]
    omega
  simp only [State.ownTagRead, bodyStation_cons hb, byteAt, List.getD_cons_zero, List.getD_cons_succ, takesTagRead_eq, hrange] at hexec
  exact hexec

theorem exec_tagWrite (hlow : 1 ≤ data.length) (hh : handed s .tagWrite tag (b :: offset :: data)) :
    goesTo (exec .tagWrite s) (hostRequest s ⟨.tagWrite, tag, b :: offset :: data⟩
      (decide ((s.station i).lifecycle = .active ∧ ∀ x ∈ (s.station i).cartridge, x.trust ≠ .unverified))
      (decide (64 ≤ offset.toNat ∧ offset.toNat + data.length ≤ 96))
      { Job.fresh (some i) .hostWrite .host with offset := offset.toNat, length := data.length, payload := some data }) := by
  have hexec : goesTo (exec .tagWrite s) (s.ownTagWrite ⟨.tagWrite, tag, b :: offset :: data⟩) :=
    congrArg Host.Outcome.next (serve_of_handed hh State.ownTagWrite)
  have hrange : (offset.toNat < 64 ∨ 95 < offset.toNat + data.length - 1) ↔
      (!decide (64 ≤ offset.toNat ∧ offset.toNat + data.length ≤ 96)) = true := by
    simp only [Bool.not_eq_true', decide_eq_false_iff_not]
    omega
  simp only [State.ownTagWrite, bodyStation_cons hb, byteAt, List.getD_cons_zero, List.getD_cons_succ, takesTagWrite_eq,
    List.drop_succ_cons, List.drop_zero, hrange] at hexec
  exact hexec

end

/-- The four outcomes of a host request (R57, R58). -/
theorem hostRequest_answers {o : Host.Outcome State Fault Refusal} {s : State} {kind : RequestKind} {tag : Byte} {body : List Byte}
    {allowed inRange : Bool} {j : Job} {h : Nat} (hexec : goesTo o (hostRequest s ⟨kind, tag, body⟩ allowed inRange j)) :
    let reply := BitVec.ofNat 8 (0x80 + requestCode kind)
    let full := 4 ≤ (s.bus.jobs.filter (fun j => j.kind = .hostRead ∨ j.kind = .hostWrite)).length + s.bus.results.length
    (allowed = false → goesTo o (replied s reply tag .wrongState [])) ∧
    (allowed = true → inRange = false → goesTo o (replied s reply tag .refused [])) ∧
    (allowed = true → inRange = true → full → goesTo o (replied s reply tag .queueFull [])) ∧
    (allowed = true → inRange = true → ¬ full → nextFree s h → goesTo o (replied
      (s.withBus { s.bus with jobs := s.bus.jobs ++ [{ j with handle := h }], lastHandle := h }) reply tag .queued (put 1 h))) := by
  refine ⟨fun ha => ?_, fun ha hr => ?_, fun ha hr hfull => ?_, fun ha hr hroom hf => ?_⟩ <;> rw [hostRequest] at hexec
  · rwa [ha, if_pos (by decide), answer_eq] at hexec
  · rwa [ha, if_neg (by decide), hr, if_pos (by decide), answer_eq] at hexec
  · rwa [ha, if_neg (by decide), hr, if_neg (by decide), queueHostJob_of_full _ _ (by rwa [hostJobs_eq_length]), answer_eq] at hexec
  · rwa [ha, if_neg (by decide), hr, if_neg (by decide), queueHostJob_of_room _ _ (by rwa [hostJobs_eq_length]) hf, answer_eq] at hexec

/-- Settles O35, by the two requests' checks. -/
theorem tagRequestsQueueHostJobs : Obligations.TagRequestsQueueHostJobs := by
  intro s i tag b offset data c kind job reply length h allowed inRange hh hb hrequest
  obtain ⟨rfl, rfl, rfl, rfl, ⟨n, hdata, rfl⟩, rfl, rfl⟩ | ⟨rfl, rfl, rfl, rfl, hlow, -, rfl, rfl, rfl⟩ := hrequest
  · exact hostRequest_answers (exec_tagRead hb hdata hh)
  · exact hostRequest_answers (exec_tagWrite hb hlow hh)

/-! ## The end of a host job -/

section
variable {s : State} {pre post : List Job} {j0 j : Job} {i : Station}

/-- A host job's end in OPERATING: out of the queue, its entry and JOB_DONE (R51, R56). -/
theorem endJob_of_host (hop : s.operating = .operating) (hq : queued s pre j0 post) (hhandle : j.handle = j0.handle)
    (hkind : j.kind = .hostRead ∨ j.kind = .hostWrite) (ht : j.target = some i) (hfollow : j.followOn = none) (hcls : j.cls = .host)
    (result : JobResult) (data : List Byte) : s.endJob j result data =
      hostFinished (s.withBus { s.bus with jobs := pre ++ post }) i j result j.lastFailure
        (if j.kind = .hostRead ∧ result = .done then data else []) := by
  have hdelivered : s.retireJob j result data = hostFinished (s.withBus { s.bus with jobs := pre ++ post }) i j result j.lastFailure
      (if j.kind = .hostRead ∧ result = .done then data else []) := by
    rw [State.retireJob, hhandle, removeJob_of_queued hq, State.deliver, ht]
    obtain hkind | hkind := hkind <;> simp only [hkind, State.hostResult, State.withBus_operating, hop, hostFinished, Job.resultEntry]
  rw [State.endJob, hdelivered, State.followOn, ht, hfollow, State.afterAuthJob, ht, hcls]

end

/-! ## ABORT_JOB -/

section
variable {s : State} {pre post : List Job} {j : Job} {n : Nat}

theorem namedHostJob_of_none (h : ∀ k ∈ s.bus.jobs, (n = 0 ∨ k.handle = n) → k.kind ≠ .hostRead ∧ k.kind ≠ .hostWrite) :
    s.bus.namedHostJob n = none := by
  unfold Bus.namedHostJob
  split_ifs with hn
  · refine List.find?_eq_none.mpr fun k hk => ?_
    simpa only [isHost_iff, not_or] using h k (List.mem_reverse.mp hk) (.inl hn)
  · exact find_hostJob_none fun k hk hhandle => h k hk (.inr hhandle)

theorem namedHostJob_of_handle (hq : queued s pre j post) (hkind : j.kind = .hostRead ∨ j.kind = .hostWrite) (hn : n = j.handle)
    (h0 : j.handle ≠ 0) : s.bus.namedHostJob n = some j := by
  rw [Bus.namedHostJob, if_neg (hn ▸ h0)]
  exact find_hostJob hq hn.symm hkind

/-- Handle 0 names the last host job in the queue's order (R60). -/
theorem namedHostJob_of_last (hq : queued s pre j post) (hkind : j.kind = .hostRead ∨ j.kind = .hostWrite)
    (hlast : ∀ k ∈ post, k.kind ≠ .hostRead ∧ k.kind ≠ .hostWrite) : s.bus.namedHostJob 0 = some j := by
  refine (if_pos rfl).trans (List.find?_eq_some_iff_append.mpr ⟨(isHost_iff j).mpr hkind, post.reverse, pre.reverse, ?_, fun k hk => ?_⟩)
  · rw [hq.1, List.reverse_append, List.reverse_cons, List.append_assoc, List.singleton_append]
  · rw [Bool.not_eq_true', ← Bool.not_eq_true, isHost_iff, not_or]
    exact hlast k (List.mem_reverse.mp hk)

end

/-- Settles O37, by the job named and the byte on the bus. -/
theorem abortJobEndsHostJob : Obligations.AbortJobEndsHostJob := by
  intro s tag b rest pre post j i hh hop
  have hexec : goesTo (exec .abortJob s) (s.ownAbortJob ⟨.abortJob, tag, b :: rest⟩) :=
    congrArg Host.Outcome.next (serve_of_handed hh State.ownAbortJob)
  simp only [State.ownAbortJob, byteAt, List.getD_cons_zero, answer_eq, oneByte_eq_put] at hexec
  have hzero : b = 0 ↔ b.toNat = 0 := by rw [BitVec.toNat_eq]; rfl
  refine ⟨fun hnone => ?_, fun hq hkind ht hfollow hcls hnamed h0 => ?_⟩
  · rw [namedHostJob_of_none fun k hk hnamed => hnone k hk (hnamed.imp_left hzero.mpr)] at hexec
    exact hexec
  · have hfound : s.bus.namedHostJob b.toNat = some j := by
      obtain hn | ⟨rfl, hlast⟩ := hnamed
      · exact namedHostJob_of_handle hq hkind hn h0
      · exact namedHostJob_of_last hq hkind hlast
    simp only [hfound, State.abortJob] at hexec
    refine ⟨fun hoff => ?_, fun hactive hown hcut => ?_⟩
    · have honBus : s.bus.onBus j = false := by
        simpa [Bus.onBus, Bool.beq_eq_decide_eq, imp_iff_not_or] using hoff
      rw [honBus, endJob_of_host hop hq rfl hkind ht hfollow hcls, if_neg (by decide), if_neg (by simp)] at hexec
      exact hexec
    · have honBus : s.bus.onBus j = true := by simp [Bus.onBus, hactive, hown]
      rw [honBus, if_pos rfl, updateJob_of_queued hq, Job.marked, hcut] at hexec
      exact hexec

end Sys2Proof.Laws
end

section
set_option Elab.async false
/-! PROOFS. The stations' inputs and timers: presence (O38), the seat timer (O39), the ink sense (O42) and the removal (O40). -/

namespace Sys2Proof.Laws

open Sys2Proof.Machine Sys2Proof.Safety

/-! ## Presence -/

section
variable {r : StationRec} {input : Bool}

theorem presenceRise_vacant (h : r.lifecycle = .vacant) : r.presenceRise input =
    { r with lifecycle := .seated, seatTimer := true, ink := if r.config.inkSenseEnable then ⟨input, true, none, none⟩ else r.ink } :=
  if_pos h

theorem presenceRise_seated (h : r.lifecycle = .seated) : r.presenceRise input = r := by
  simp [StationRec.presenceRise, h, Lifecycle.held]

theorem held_iff (l : Lifecycle) : l.held = true ↔ l ≠ .vacant ∧ l ≠ .seated := by cases l <;> decide

theorem presenceRise_held (h : r.lifecycle ≠ .vacant ∧ r.lifecycle ≠ .seated) : r.presenceRise input = { r with removalTimer := false } := by
  rw [StationRec.presenceRise, if_neg h.1, if_pos ((held_iff _).mpr h)]

theorem presenceFall_vacant (h : r.lifecycle = .vacant) : r.presenceFall = r := by
  simp [StationRec.presenceFall, h, Lifecycle.held]

theorem presenceFall_seated (h : r.lifecycle = .seated) : r.presenceFall = { r with lifecycle := .vacant, seatTimer := false } :=
  if_pos h

theorem presenceFall_held (h : r.lifecycle ≠ .vacant ∧ r.lifecycle ≠ .seated) : r.presenceFall = { r with removalTimer := true } := by
  rw [StationRec.presenceFall, if_neg h.2, if_pos ((held_iff _).mpr h)]

end

section
variable {s : State} {i : Station}

theorem presenceRise_of_halted (h : s.presence[i] = false) (hop : s.operating = .halted) :
    s.presenceRise i = s.withPresence (s.presence.set i true) := by
  rw [State.presenceRise, h, if_neg (by decide)]
  exact whenInService_of_halted (s := s.withPresence (s.presence.set i true)) hop _

theorem presenceRise_of_serving (hs : serving s) (h : s.presence[i] = false) : s.presenceRise i =
    (s.withPresence (s.presence.set i true)).setStation i ((s.station i).presenceRise s.inkInputs[i]) := by
  rw [State.presenceRise, h, if_neg (by decide)]
  exact whenInService_of_serving (s := s.withPresence (s.presence.set i true)) hs _

theorem presenceFall_of_halted (h : s.presence[i] = true) (hop : s.operating = .halted) :
    s.presenceFall i = s.withPresence (s.presence.set i false) := by
  rw [State.presenceFall, if_pos h]
  exact whenInService_of_halted (s := s.withPresence (s.presence.set i false)) hop _

theorem presenceFall_of_serving (hs : serving s) (h : s.presence[i] = true) : s.presenceFall i =
    (s.withPresence (s.presence.set i false)).setStation i (s.station i).presenceFall := by
  rw [State.presenceFall, if_pos h]
  exact whenInService_of_serving (s := s.withPresence (s.presence.set i false)) hs _

end

/-- Settles O38, by the input's level, the operating state and the lifecycle state. -/
theorem presenceMovesTheStation : Obligations.PresenceMovesTheStation := by
  intro s i c hs r input held
  refine ⟨fun hc => ?_, fun hc => ?_⟩
  · have hexec : goesTo (exec c s) (s.presenceRise i) := by
      obtain rfl | rfl := hc <;> rfl
    refine ⟨fun h => ?_, fun h hop => ?_, fun h hop => ?_⟩
    · rwa [State.presenceRise, if_pos h] at hexec
    · rwa [presenceRise_of_halted h hop] at hexec
    · rw [presenceRise_of_serving ⟨hs, hop⟩ h] at hexec
      refine ⟨fun hl => ?_, fun hl => ?_, fun hl => ?_⟩
      · rwa [presenceRise_vacant hl] at hexec
      · rw [presenceRise_seated hl] at hexec
        exact setStation_self (input true) i ▸ hexec
      · rwa [presenceRise_held hl] at hexec
  · have hexec : goesTo (exec c s) (s.presenceFall i) := by subst hc; rfl
    refine ⟨fun h => ?_, fun h hop => ?_, fun h hop => ?_⟩
    · rwa [State.presenceFall, h, if_neg (by decide)] at hexec
    · rwa [presenceFall_of_halted h hop] at hexec
    · rw [presenceFall_of_serving ⟨hs, hop⟩ h] at hexec
      refine ⟨fun hl => ?_, fun hl => ?_, fun hl => ?_⟩
      · rw [presenceFall_vacant hl] at hexec
        exact setStation_self (input false) i ▸ hexec
      · rwa [presenceFall_seated hl] at hexec
      · rwa [presenceFall_held hl] at hexec

/-! ## The seat timer -/

/-- Settles O39, by the seat timer. -/
theorem seatTimerStartsIdentification : Obligations.SeatTimerStartsIdentification := by
  intro s i h hs
  have hexec : goesTo (exec (.seatTimerExpiry i) s) (s.seatTimerExpires i) := congrArg Host.Outcome.next (whenInService_of_serving hs _)
  refine ⟨fun htimer => ?_, fun hl htimer hf => ?_⟩
  · rwa [State.seatTimerExpires, if_neg (by simp [htimer])] at hexec
  · rwa [State.seatTimerExpires, if_pos ⟨hl, htimer⟩, enterIdentifying_eq hf] at hexec

/-! ## The ink sense -/

section
variable {s : State} {i : Station} {level : Bool}

theorem exec_inkSenseChange_same (h : s.inkInputs[i] = level) : goesTo (exec (.inkSenseChange i level) s) s :=
  congrArg Host.Outcome.next (if_pos h)

theorem exec_inkSenseChange (h : s.inkInputs[i] ≠ level) : goesTo (exec (.inkSenseChange i level) s)
    ((s.withInkInputs (s.inkInputs.set i level)).whenInService (fun s => s.inkChange i level)) :=
  congrArg Host.Outcome.next (if_neg h)

theorem inkChange_of_stopped (h : (s.station i).config.inkSenseEnable = false) : s.inkChange i level = s := by
  simp [State.inkChange, h]

theorem inkChange_of_running (h : (s.station i).config.inkSenseEnable = true) : s.inkChange i level =
    s.setStation i { s.station i with ink := { (s.station i).ink with candidate := level, settle := true } } := by
  rw [State.inkChange, if_pos h]
  rfl

/-- A reading that is no rise, or that no lifecycle state takes as evidence (R157, R158). -/
theorem settleInk_of_quiet (hreading : (s.station i).ink.reading ≠ some (s.station i).ink.candidate)
    (hquiet : ((s.station i).ink.rises && ((s.station i).lifecycle == .active || (s.station i).lifecycle == .quarantined)) = false) :
    s.settleInk i = s.setStation i { s.station i with ink := (s.station i).ink.takeReading } := by
  rw [State.settleInk, if_neg hreading]
  simp only [hquiet]
  rfl

theorem settleInk_of_rise (hreading : (s.station i).ink.reading ≠ some (s.station i).ink.candidate)
    (hrise : ((s.station i).ink.rises && ((s.station i).lifecycle == .active || (s.station i).lifecycle == .quarantined)) = true) :
    s.settleInk i = (s.setStation i { s.station i with ink := (s.station i).ink.takeReading }).recordEvidence i .senseRise := by
  rw [State.settleInk, if_neg hreading]
  simp only [hrise]
  rfl

end

theorem takeReading_eq (k : InkSense) : k.takeReading =
    { k with settle := false, reading := some k.candidate, baseline := if k.baseline = none then some k.candidate else k.baseline } := by
  rw [InkSense.takeReading]
  cases k.baseline <;> rfl

/-- Settles O42, by the levels, the timers and the operating state. -/
theorem inkSenseTakesReadings : Obligations.InkSenseTakesReadings := by
  intro s i level hs r
  obtain ⟨moved, hmoved⟩ : ∃ moved, moved = s.withInkInputs (s.inkInputs.set i level) := ⟨_, rfl⟩
  have hstation : moved.station i = s.station i := hmoved ▸ rfl
  have hoperating : moved.operating = s.operating := hmoved ▸ rfl
  have hup : up moved := hmoved ▸ hs
  refine ⟨exec_inkSenseChange_same, fun hlevel hstopped => ?_, fun hlevel henable hop => ?_, fun hstopped => ?_, fun hsettle hop => ?_⟩
  · have hexec := exec_inkSenseChange hlevel
    rw [← hmoved] at hexec ⊢
    obtain henable | hop := hstopped
    · have hstays : moved.inkChange i level = moved := inkChange_of_stopped (hstation ▸ henable)
      rwa [State.whenInService, hstays, ite_self] at hexec
    · rwa [whenInService_of_halted (hoperating.trans hop)] at hexec
  · have hexec := exec_inkSenseChange hlevel
    rw [← hmoved, whenInService_of_serving ⟨hup, hoperating.trans hop⟩, inkChange_of_running (hstation ▸ henable), hstation, hmoved] at hexec
    exact hexec
  · have hexec : goesTo (exec (.inkSettleExpiry i) s) (s.whenInService (fun s => if (s.station i).ink.settle then s.settleInk i else s)) := rfl
    cases hop : s.operating with
    | operating =>
      have hsettle : (s.station i).ink.settle = false := hstopped.resolve_right (by simp [hop])
      rwa [whenInService_of_serving ⟨hs, hop⟩, hsettle] at hexec
    | halted => rwa [whenInService_of_halted hop] at hexec
  · intro stopped read
    have hexec : goesTo (exec (.inkSettleExpiry i) s) (s.settleInk i) := by
      refine congrArg Host.Outcome.next ((whenInService_of_serving ⟨hs, hop⟩ _).trans (if_pos hsettle))
    have hread : s.setStation i { s.station i with ink := (s.station i).ink.takeReading } = read := by rw [takeReading_eq]
    refine ⟨fun hsame => ?_, fun hreading => ⟨fun hquiet => ?_, fun hbaseline hlow hhigh hl => ?_⟩⟩
    · rw [State.settleInk, if_pos hsame] at hexec
      exact hexec
    · rw [settleInk_of_quiet hreading, hread] at hexec
      · exact hexec
      · obtain h | h | h | ⟨h, h'⟩ := hquiet <;> simp_all [InkSense.rises, r]
    · rw [settleInk_of_rise hreading, hread] at hexec
      · exact hexec
      · have hsome : (s.station i).ink.baseline.isSome = true := Option.isSome_iff_ne_none.mpr hbaseline
        have hlow' : (s.station i).ink.reading = some false := hlow
        have hhigh' : (s.station i).ink.candidate = true := hhigh
        obtain hl | hl := hl <;> simp [InkSense.rises, hsome, hlow', hhigh', show (s.station i).lifecycle = _ from hl]

/-! ## The removal -/

theorem authResult_removed (s : State) (i : Station) (data : List Byte) : s.authResult i .removed data = s := by
  unfold State.authResult
  cases s.context i with
  | none => rfl
  | some x => cases hstep : x.step <;> simp [hstep, State.readIdResult, State.challengeResult, State.responseResult]

theorem writeBackResult_removed (s : State) (i : Station) (j : Job) : s.writeBackResult i j .removed = s := by
  simp [State.writeBackResult]

/-- The entry of a host job that a removal ends (R56). -/
def removedEntry (i : Station) (j : Job) : HostResult := ⟨j.handle, i, j.kind, .removed, j.lastFailure, []⟩

/-- The host jobs of a list. -/
def hostsOf (jobs : List Job) : List Job := jobs.filter (fun j => j.kind = .hostRead ∨ j.kind = .hostWrite)

/-- A state after jobs of a station have ended REMOVED: they are out of the queue, the host jobs among them have an entry and JOB_DONE. -/
def jobsRemoved (s : State) (i : Station) (ending : List Job) : State :=
  (s.withBus { s.bus with
    jobs := s.bus.jobs.filter (fun j => ∀ k ∈ ending, k.handle ≠ j.handle)
    results := s.bus.results ++ (hostsOf ending).map (removedEntry i) }).withEvents
    ((hostsOf ending).foldl (fun q j => q.raise none .jobDone (some i) j.handle) s.events)

section
variable {s : State} {i : Station} {j : Job}

theorem removeJob_jobs (b : Bus) (h : Nat) : (b.removeJob h).jobs = b.jobs.filter (fun k => h ≠ k.handle) := by
  refine List.filter_congr fun k _ => ?_
  simp [bne, Bool.beq_eq_decide_eq, eq_comm]

/-- One job of the station ends REMOVED (R51). -/
theorem retireJob_removed (hop : s.operating = .operating) (ht : j.target = some i) :
    s.retireJob j .removed [] = jobsRemoved s i [j] := by
  have hqueue : s.bus.removeJob j.handle = { s.bus with jobs := s.bus.jobs.filter (fun k => ∀ x ∈ [j], x.handle ≠ k.handle) } := by
    simp only [List.forall_mem_singleton, ← removeJob_jobs]
    rfl
  have hquiet : j.kind ≠ .hostRead → j.kind ≠ .hostWrite → jobsRemoved s i [j] = s.withBus (s.bus.removeJob j.handle) := by
    intro hread hwrite
    have hnone : hostsOf [j] = [] := by simp [hostsOf, hread, hwrite]
    rw [jobsRemoved, hnone, hqueue, List.map_nil, List.append_nil]
    rfl
  rw [State.retireJob, State.deliver, ht]
  cases hkind : j.kind with
  | wake => exact (hquiet (by simp [hkind]) (by simp [hkind])).symm
  | readId | challenge | response =>
    simp only [authResult_removed, ite_self]
    exact (hquiet (by simp [hkind]) (by simp [hkind])).symm
  | writeUsage => exact (writeBackResult_removed _ i j).trans (hquiet (by simp [hkind]) (by simp [hkind])).symm
  | hostRead | hostWrite =>
    have hhost : hostsOf [j] = [j] := by simp [hostsOf, hkind]
    rw [jobsRemoved, hhost, hqueue]
    simp only [State.hostResult, State.withBus_operating, hop, Job.resultEntry]
    simp [removedEntry, State.raise, State.withBus, State.withEvents, hkind]

theorem jobsRemoved_jobsRemoved (s : State) (i : Station) (first rest : List Job) :
    jobsRemoved (jobsRemoved s i first) i rest = jobsRemoved s i (first ++ rest) := by
  have hqueue : (s.bus.jobs.filter (fun j => ∀ k ∈ first, k.handle ≠ j.handle)).filter (fun j => ∀ k ∈ rest, k.handle ≠ j.handle) =
      s.bus.jobs.filter (fun j => ∀ k ∈ first ++ rest, k.handle ≠ j.handle) := by
    rw [List.filter_filter]
    refine List.filter_congr fun j _ => ?_
    simp only [List.mem_append, or_imp, forall_and, Bool.decide_and, Bool.and_comm]
  have hhosts : hostsOf (first ++ rest) = hostsOf first ++ hostsOf rest := List.filter_append ..
  simp only [jobsRemoved, State.withEvents_bus, State.withBus_bus, State.withEvents_events, hqueue, hhosts, List.map_append,
    List.foldl_append, List.append_assoc]
  rfl

/-- Jobs of the station end REMOVED one after another. -/
theorem foldl_retireJob_removed (ending : List Job) (hop : s.operating = .operating) (ht : ∀ j ∈ ending, j.target = some i) :
    ending.foldl (fun s j => s.retireJob j .removed []) s = jobsRemoved s i ending := by
  induction ending generalizing s with
  | nil => simp [jobsRemoved, hostsOf, State.withBus, State.withEvents]
  | cons j rest ih =>
    rw [List.foldl_cons, retireJob_removed hop (ht j (by simp)), ih (s := jobsRemoved s i [j]) hop fun k hk => ht k (by simp [hk]), jobsRemoved_jobsRemoved]
    rfl

/-- The station's jobs that a removal ends: those without a byte on the bus (R22 step 1). -/
def endingJobs (s : State) (i : Station) : List Job :=
  s.bus.jobs.filter (fun j => j.target = some i ∧ ¬ (j.state = .active ∧ s.bus.condition = .own))

theorem isOf_iff (i : Station) (j : Job) : j.isOf i = true ↔ j.target = some i := by simp [Job.isOf]

theorem onBus_iff (b : Bus) (j : Job) : b.onBus j = true ↔ j.state = .active ∧ b.condition = .own := by
  simp [Bus.onBus]

/-- The removal of a station's jobs (R22 step 1, R51). -/
theorem removeJobs_eq (hop : s.operating = .operating) : s.removeJobs i =
    (s.withBus { s.bus with
      jobs := (s.bus.jobs.filter (fun j => ∀ k ∈ endingJobs s i, k.handle ≠ j.handle)).map
        (fun j => if j.target = some i then toBeCut .removal j else j)
      results := s.bus.results ++ (hostsOf (endingJobs s i)).map (removedEntry i) }).withEvents
      ((hostsOf (endingJobs s i)).foldl (fun q j => q.raise none .jobDone (some i) j.handle) s.events) := by
  have hending : s.bus.jobs.filter (fun j => j.isOf i && !s.bus.onBus j) = endingJobs s i := by
    refine List.filter_congr fun j _ => ?_
    rw [Bool.eq_iff_iff, Bool.and_eq_true, Bool.not_eq_true', ← Bool.not_eq_true, isOf_iff, onBus_iff, decide_eq_true_eq]
  have htarget : ∀ j ∈ endingJobs s i, j.target = some i := fun j hj => (decide_eq_true_iff.mp (List.mem_filter.mp hj).2).1
  have hmarked : ∀ j, (if j.isOf i && s.bus.onBus j then j.marked .removal else j).handle = j.handle := fun j => by
    split <;> rfl
  have hjobs : (s.bus.jobs.map (fun j => if j.isOf i && s.bus.onBus j then j.marked .removal else j)).filter
        (fun j => ∀ k ∈ endingJobs s i, k.handle ≠ j.handle) =
      (s.bus.jobs.filter (fun j => ∀ k ∈ endingJobs s i, k.handle ≠ j.handle)).map
        (fun j => if j.target = some i then toBeCut .removal j else j) := by
    simp only [List.filter_map, Function.comp_def, hmarked]
    refine List.map_congr_left fun j hj => ?_
    obtain ⟨hmem, hkept⟩ := List.mem_filter.mp hj
    have hstays : j ∉ endingJobs s i := fun h => (of_decide_eq_true hkept) j h rfl
    simp only [endingJobs, List.mem_filter, hmem, true_and, decide_eq_true_eq, not_and, not_not, ← onBus_iff] at hstays
    by_cases ht : j.target = some i
    · rw [if_pos ht, hstays ht, (isOf_iff i j).mpr ht, marked_eq]
      rfl
    · have hother : j.isOf i = false := by rw [← Bool.not_eq_true, isOf_iff]; exact ht
      rw [if_neg ht, hother]
      rfl
  have hfold := foldl_retireJob_removed (endingJobs s i) (i := i) (s := s.withBus { s.bus with
    jobs := s.bus.jobs.map (fun j => if j.isOf i && s.bus.onBus j then j.marked .removal else j) }) hop htarget
  rw [State.removeJobs, hending]
  refine hfold.trans ?_
  simp only [jobsRemoved, State.withBus_bus, hjobs]
  rfl

/-- The departure of a cartridge of ACTIVE, QUARANTINED or DEPARTING (R22 step 3). -/
theorem removeCartridge_eq (s : State) (i : Station) : s.removeCartridge i =
    if (s.station i).lifecycle = .active ∨ (s.station i).lifecycle = .quarantined ∨ (s.station i).lifecycle = .departing
      then enteredAsDeparted s i else s := by
  rw [State.removeCartridge, enterDeparted_eq]
  cases (s.station i).lifecycle <;> rfl

/-- The context and the VERIFY requests go (R22 step 2, R69). -/
theorem clearContext_eq (s : State) (i : Station) : s.clearContext i = s.withAuth { s.auth with
    contexts := s.auth.contexts.set i none
    fifo := s.auth.fifo.filter (fun r => r.station ≠ i)
    computing := s.auth.computing.map (fun c => if c.request.station = i then { c with withdrawn := true } else c) } := by
  have hother : (fun r : VerifyRequest => r.station != i) = fun r => decide (r.station ≠ i) := by
    funext r
    simp [bne, Bool.beq_eq_decide_eq]
  simp only [State.clearContext, Auth.withdrawVerify, hother]
  rfl

end

/-- Settles O40, by the steps of a removal. -/
theorem removalTearsTheStationDown : Obligations.RemovalTearsTheStationDown := by
  intro s i hs
  have hexec : goesTo (exec (.removalTimerExpiry i) s)
      (if (s.station i).removalTimer && (s.station i).lifecycle.held then s.tearDown i else s) :=
    congrArg Host.Outcome.next (whenInService_of_serving hs _)
  refine ⟨fun htimer => ?_, fun htimer hvacant hseated => ?_⟩
  · rwa [htimer] at hexec
  · intro ending host jobless alone left
    have halone : (s.removeJobs i).clearContext i = alone := by rw [clearContext_eq, removeJobs_eq hs.2]; rfl
    have hstation : alone.station i = s.station i := rfl
    have hleft : alone.removeCartridge i = left := by rw [removeCartridge_eq, hstation]
    have hkept : left.station i = s.station i := by
      rw [← hstation, ← hleft, removeCartridge_eq]
      split
      · exact enteredAsDeparted_station alone i i
      · rfl
    rw [htimer, (held_iff _).mpr ⟨hvacant, hseated⟩, State.tearDown, halone, hleft, State.modStation, hkept] at hexec
    exact hexec

end Sys2Proof.Laws
end

section
set_option Elab.async false
/-! PROOFS. Evidence and charges (R120 to R142, R152 to R155): what a recording of evidence and a charge do, in the words of the statements, and
the statements. -/

namespace Sys2Proof.Laws

open Sys2Proof.Machine Sys2Proof.Safety

/-! ## Evidence (R152 to R154) -/

theorem insert_eq_joined (e : EvidenceSet) (k : EvidenceKind) : e.insert k = joinedEvidence e (Safety.setOf [k]) := by
  cases k <;> simp [EvidenceSet.insert, joinedEvidence, Safety.setOf]

theorem evidenceCode_eq (k : EvidenceKind) : evidenceCode k = evidenceNumber k := by cases k <;> rfl

/-- A cartridge record after a recording of evidence (R152 steps 1 to 3, R153). -/
def evidenced (c : CartridgeRecord) (k : EvidenceKind) : CartridgeRecord :=
  { c with
    evidence := joinedEvidence c.evidence (Safety.setOf [k])
    trust := if c.authenticated = true ∧ c.trust = .genuine then .refilled else c.trust
    refillMark := if c.authenticated = true ∨ c.trust ≠ .unverified then true else c.refillMark }

theorem withEvidence_eq {c : CartridgeRecord} (h : c.authenticated = true) (k : EvidenceKind) : c.withEvidence k = evidenced c k := by
  simp [CartridgeRecord.withEvidence, evidenced, h, insert_eq_joined]

theorem withProvisionalEvidence_eq {c : CartridgeRecord} (h : c.authenticated = false) (k : EvidenceKind) :
    c.withProvisionalEvidence k = evidenced c k := by
  by_cases ht : c.trust = .unverified <;> simp [CartridgeRecord.withProvisionalEvidence, evidenced, h, ht, insert_eq_joined]

section
variable {s : State} {i : Station} {c : CartridgeRecord}

theorem afterNeed_operating (t : State) (i : Station) (c : CartridgeRecord) : (afterNeed t i c).operating = t.operating := by
  unfold afterNeed
  split <;> simp

theorem afterNeed_writes (t : State) (i : Station) (c : CartridgeRecord) : (afterNeed t i c).writes = t.writes := by
  unfold afterNeed
  split <;> simp

theorem afterNeed_station (t : State) (i k : Station) (c : CartridgeRecord) : (afterNeed t i c).station k = t.station k := by
  unfold afterNeed
  split
  · exact station_congr (by simp)
  · rfl

theorem afterNeed_part (t : State) (i : Station) (c : CartridgeRecord) : (afterNeed t i c).part = t.part := by
  unfold afterNeed
  split <;> simp

/-- A checkpoint of a record that is written where the part is OPERATING (R142, R186). -/
def checkpointed (t : State) (i : Station) (c : CartridgeRecord) : State :=
  match accountOf c with
  | some account => if t.operating = .operating then t.withWrites (t.writes ++ [⟨.checkpoint i (some account), false⟩]) else t
  | none => t

theorem writeCheckpoint_eq (hc : (s.station i).cartridge = some c) : s.writeCheckpoint i = checkpointed s i c := by
  simp only [State.writeCheckpoint, State.checkpointOf, hc, Option.bind_some, checkpoint_eq, checkpointed]
  cases s.operating <;> cases accountOf c <;> rfl

/-- The refill policy applied to a station (R154). -/
theorem applyRefillPolicy_eq (hc : (s.station i).cartridge = some c) : s.applyRefillPolicy i =
    if s.part.policy = .quarantine ∧ s.operating = .operating ∧ (s.station i).lifecycle = .active then toQuarantine s i c .refill 9
    else s := by
  unfold State.applyRefillPolicy
  split
  next ho hp hl => rw [if_pos ⟨hp, ho, hl⟩, enterQuarantined_eq .refill hc]; rfl
  next h => rw [if_neg fun ⟨hp, ho, hl⟩ => h ho hp hl]

/-- A state after evidence has been taken into the record of an authenticated cartridge, with the test for a write-back need where the mark
was clear (R152 steps 1 to 3). -/
def evidenceTested (s : State) (i : Station) (c : CartridgeRecord) (k : EvidenceKind) : State :=
  let recorded := s.setStation i { s.station i with cartridge := some (evidenced c k) }
  if c.refillMark = true then recorded else afterNeed recorded i (evidenced c k)

theorem evidenceTested_frame (s : State) (i : Station) (c : CartridgeRecord) (k : EvidenceKind) :
    (evidenceTested s i c k).station i = { s.station i with cartridge := some (evidenced c k) } ∧
    (evidenceTested s i c k).operating = s.operating ∧ (evidenceTested s i c k).part = s.part ∧
    (evidenceTested s i c k).writes = s.writes := by
  unfold evidenceTested
  dsimp only
  split <;> simp [afterNeed_station, afterNeed_operating, afterNeed_part, afterNeed_writes]

/-- The checkpoint of a changed record follows, and REFILL_SUSPECTED (R152 steps 4 and 5). -/
def evidenceReported (s : State) (i : Station) (c : CartridgeRecord) (k : EvidenceKind) : State :=
  (if evidenced c k = c then evidenceTested s i c k else checkpointed (evidenceTested s i c k) i (evidenced c k)).raise
    .refillSuspected (some i) (evidenceNumber k)

theorem checkpointed_frame (t : State) (i : Station) (c : CartridgeRecord) :
    (∀ k, (checkpointed t i c).station k = t.station k) ∧ (checkpointed t i c).operating = t.operating ∧ (checkpointed t i c).part = t.part := by
  unfold checkpointed
  (repeat' split) <;> exact ⟨fun _ => rfl, rfl, rfl⟩

theorem evidenceReported_frame (s : State) (i : Station) (c : CartridgeRecord) (k : EvidenceKind) :
    (evidenceReported s i c k).station i = { s.station i with cartridge := some (evidenced c k) } ∧
    (evidenceReported s i c k).operating = s.operating ∧ (evidenceReported s i c k).part = s.part := by
  unfold evidenceReported
  split <;> simp [checkpointed_frame, evidenceTested_frame]

theorem recordEvidence_of_provisional (hc : (s.station i).cartridge = some c) (hauth : c.authenticated = false) (k : EvidenceKind) :
    s.recordEvidence i k =
      (s.setStation i { s.station i with cartridge := some (evidenced c k) }).raise .refillSuspected (some i) (evidenceNumber k) := by
  simp only [State.recordEvidence, hc, hauth, Bool.false_eq_true, if_false, modCartridge_eq hc, withProvisionalEvidence_eq hauth,
    evidenceCode_eq]

theorem recordEvidence_of_authenticated (hc : (s.station i).cartridge = some c) (hauth : c.authenticated = true) (k : EvidenceKind) :
    s.recordEvidence i k =
      if s.part.policy = .quarantine ∧ s.operating = .operating ∧ (s.station i).lifecycle = .active
      then toQuarantine (evidenceReported s i c k) i (evidenced c k) .refill 9 else evidenceReported s i c k := by
  obtain ⟨hr, hop, hpart⟩ := evidenceReported_frame s i c k
  have hrecorded : ((s.setStation i { s.station i with cartridge := some (evidenced c k) }).station i).cartridge
      = some (evidenced c k) := by rw [State.setStation_station_same]
  have htested : ((evidenceTested s i c k).station i).cartridge = some (evidenced c k) := by rw [(evidenceTested_frame s i c k).1]
  have hreported : s.recordEvidence i k = (evidenceReported s i c k).applyRefillPolicy i := by
    simp only [State.recordEvidence, hc, hauth, if_true, modCartridge_eq hc, withEvidence_eq hauth, evidenceCode_eq,
      testWriteBack_eq hrecorded]
    rw [← evidenceTested, writeCheckpoint_eq htested, ← evidenceReported]
  rw [hreported, applyRefillPolicy_eq (c := evidenced c k) (by rw [hr]), hop, hpart, hr]

/-- Settles O43, by the two kinds of record that evidence meets. -/
theorem evidenceChangesTheRecord : Obligations.EvidenceChangesTheRecord := by
  intro s i k c hc
  refine ⟨fun hauth => ?_, fun hauth => recordEvidence_of_provisional hc hauth k⟩
  obtain ⟨-, hop, -, hw⟩ := evidenceTested_frame s i c k
  have hkept : (if evidenced c k = c then evidenceTested s i c k else checkpointed (evidenceTested s i c k) i (evidenced c k)) =
      match accountOf (evidenced c k) with
        | some account => if evidenced c k ≠ c ∧ s.operating = .operating
          then (evidenceTested s i c k).withWrites (s.writes ++ [⟨.checkpoint i (some account), false⟩]) else evidenceTested s i c k
        | none => evidenceTested s i c k := by
    unfold checkpointed
    rw [hop, hw]
    by_cases hsame : evidenced c k = c <;> cases accountOf (evidenced c k) <;> simp [hsame]
  rw [recordEvidence_of_authenticated hc hauth k, evidenceReported, hkept]
  exact rfl

end
end Sys2Proof.Laws
end

section
set_option Elab.async false
/-! PROOFS. Charges (R120, R121, R132, R134): what a charge with the checks after it does, in the words of the statements, what it leaves alone, and
W_DELIVERY (O44). -/

namespace Sys2Proof.Laws

open Sys2Proof.Machine Sys2Proof.Safety

/-! ## A write-back need asked for twice -/

theorem mergeRequest_idem (j : Job) : (j.mergeRequest .writeBack).mergeRequest .writeBack = j.mergeRequest .writeBack := by
  unfold Job.mergeRequest
  by_cases hs : j.state = .queued
  · simp [hs]
  · by_cases hf : j.followOn = some .depart <;> simp [hs, hf, JobClass.strongest]

theorem mergeRequest_isWriteBackOf (i : Station) (c : JobClass) (j : Job) : (j.mergeRequest c).isWriteBackOf i = j.isWriteBackOf i := by
  unfold Job.mergeRequest Job.isWriteBackOf
  split <;> rfl

/-- A job after a write-back request of class WRITEBACK for a station (R43). -/
def askedFor (i : Station) (j : Job) : Job := if j.isWriteBackOf i then j.mergeRequest .writeBack else j

theorem askedFor_isWriteBackOf (i : Station) (j : Job) : (askedFor i j).isWriteBackOf i = j.isWriteBackOf i := by
  unfold askedFor
  split <;> simp only [mergeRequest_isWriteBackOf]

theorem askedFor_idem (i : Station) (j : Job) : askedFor i (askedFor i j) = askedFor i j := by
  rw [askedFor, askedFor_isWriteBackOf, askedFor]
  split <;> simp only [mergeRequest_idem]

theorem requestWriteBack_eq (s : State) (i : Station) : s.requestWriteBack i .writeBack =
    if s.bus.jobs.any (Job.isWriteBackOf i) then s.withBus { s.bus with jobs := s.bus.jobs.map (askedFor i) }
    else s.enqueue (Job.fresh (some i) .writeUsage .writeBack) := rfl

/-- A second request of class WRITEBACK finds the job of the first, and asks for nothing new (R43). -/
theorem requestWriteBack_idem (s : State) (i : Station) :
    (s.requestWriteBack i .writeBack).requestWriteBack i .writeBack = s.requestWriteBack i .writeBack := by
  rw [requestWriteBack_eq s]
  by_cases hany : s.bus.jobs.any (Job.isWriteBackOf i) = true
  · have hagain : (s.bus.jobs.map (askedFor i)).any (Job.isWriteBackOf i) = true := by
      rw [List.any_map, ← hany]
      exact congrArg s.bus.jobs.any (funext (askedFor_isWriteBackOf i))
    have hsame : (s.bus.jobs.map (askedFor i)).map (askedFor i) = s.bus.jobs.map (askedFor i) := by
      rw [List.map_map]
      exact List.map_congr_left fun j _ => askedFor_idem i j
    rw [if_pos hany, requestWriteBack_eq, State.withBus, if_pos hagain, hsame]
    rfl
  · rw [if_neg hany, requestWriteBack_eq, State.enqueue, Bus.enqueue, State.withBus]
    have hnew : ({ Job.fresh (some i) .writeUsage .writeBack with handle := s.bus.nextHandle } : Job).isWriteBackOf i = true := by
      simp [Job.isWriteBackOf, Job.fresh]
    have hsame : ∀ j ∈ s.bus.jobs ++ [{ Job.fresh (some i) .writeUsage .writeBack with handle := s.bus.nextHandle }],
        askedFor i j = j := by
      intro j hj
      rcases List.mem_append.mp hj with hold | hlast
      · exact if_neg fun h => hany (List.any_eq_true.mpr ⟨j, hold, h⟩)
      · obtain rfl := List.mem_singleton.mp hlast
        exact (if_pos hnew).trans rfl
    rw [if_pos (List.any_eq_true.mpr ⟨_, List.mem_append_right _ (List.mem_singleton_self _), hnew⟩), List.map_congr_left hsame, List.map_id']
    rfl

/-! ## Charges -/

section
variable {t : State} {i : Station} {c : CartridgeRecord} {a : Account} {capacity w : Nat}

theorem afterNeed_idem (t : State) (i : Station) (c : CartridgeRecord) : afterNeed (afterNeed t i c) i c = afterNeed t i c := by
  rw [afterNeed, afterNeed_station, afterNeed_part]
  split
  next h => rw [afterNeed, if_pos h, requestWriteBack_idem]
  next => rfl

/-- A cartridge record whose used figure has been charged (R120). -/
def usedCharged (c : CartridgeRecord) (a : Account) (w : Nat) : CartridgeRecord :=
  { c with
    account := some { a with used := min 4294967295 (a.used + w) }
    usedSaturated := c.usedSaturated || decide (4294967295 ≤ a.used ∨ 4294967295 < a.used + w) }

/-- A station with a cartridge record, its charged total grown by a charge (R120). -/
def withCharged (r : StationRec) (w : Nat) (c : CartridgeRecord) : StationRec :=
  { r with cartridge := some c, meter := { r.meter with charged := min 4294967295 (r.meter.charged + w) } }

/-- The event queue after a charge of the figures (R120). -/
def saturationEvents (q : EventQueue) (i : Station) (c : CartridgeRecord) (a : Account) (w : Nat) : EventQueue :=
  if (4294967295 ≤ a.used ∨ 4294967295 < a.used + w) ∧ c.usedSaturated = false
  then q.raise none .usedSaturated (some i) (a.used + w - 4294967295) else q

theorem chargeFigures_of_account (hc : (t.station i).cartridge = some c) (ha : c.account = some a) : t.chargeFigures i w =
    (t.withEvents (saturationEvents t.events i c a w)).setStation i (withCharged (t.station i) w (usedCharged c a w)) := by
  have hsat : c.saturates w = decide (4294967295 ≤ a.used ∨ 4294967295 < a.used + w) := by
    rw [CartridgeRecord.saturates, ha]
    exact (Bool.decide_or _ _).symm
  have hrecord : (t.station i).charge w = withCharged (t.station i) w (usedCharged c a w) := by
    simp only [StationRec.charge, hc, Option.map_some, CartridgeRecord.charge, ha, satAdd_eq_min, hsat, Config.maxNl]
    rfl
  simp only [State.chargeFigures, hc, State.modStation, hrecord, hsat, CartridgeRecord.excess, ha, saturationEvents, Config.maxNl]
  cases c.usedSaturated <;> by_cases hs : 4294967295 ≤ a.used ∨ 4294967295 < a.used + w <;> simp only [hs] <;> rfl

/-! ### The checks after a charge (R134) -/

/-- The OVERDRAW test of a record with figures (R155). -/
theorem testOverdraw_of_figures (hc : (t.station i).cartridge = some c) (hcapacity : c.capacity = some capacity) (ha : c.account = some a) :
    t.testOverdraw i =
      if c.overdrawRaised = true ∨ a.used - capacity ≤ (t.station i).config.swapReserve + t.part.tolerance then t
      else (t.setStation i { t.station i with cartridge := some { c with overdrawRaised := true } }).recordEvidence i .overdraw := by
  have htest : (!c.overdrawRaised && decide ((t.station i).config.swapReserve + t.part.tolerance < overdraw capacity a.used)) = true ↔
      ¬ (c.overdrawRaised = true ∨ a.used - capacity ≤ (t.station i).config.swapReserve + t.part.tolerance) := by
    rw [overdraw, Bool.and_eq_true, Bool.not_eq_true', decide_eq_true_eq, not_or, Bool.not_eq_true, not_le]
  simp only [State.testOverdraw, hc, hcapacity, ha, modCartridge_eq hc]
  by_cases h : c.overdrawRaised = true ∨ a.used - capacity ≤ (t.station i).config.swapReserve + t.part.tolerance
  · rw [if_pos h, if_neg fun hd => htest.mp hd h]
  · rw [if_neg h, if_pos (htest.mpr h)]

theorem testWriteBack_of_record (t : State) (i : Station) : t.testWriteBack i =
    match (t.station i).cartridge with
    | some c => afterNeed t i c
    | none => t := by
  cases hc : (t.station i).cartridge with
  | some c => exact testWriteBack_eq hc
  | none =>
    unfold State.testWriteBack
    rw [hc]
    split
    next h => cases h
    next => rfl

/-- A charged record with its level band (R128, R129). -/
def bandRecord (p : PartConfig) (c : CartridgeRecord) (a : Account) (capacity w : Nat) : CartridgeRecord :=
  withLevel p capacity (min 4294967295 (a.used + w)) (usedCharged c a w)

/-- A state with a station's record charged and its level band computed, and with what both raise (R120, R128, R129). -/
def bandCharged (t : State) (i : Station) (w : Nat) (c : CartridgeRecord) (a : Account) (capacity : Nat) : State :=
  (t.withEvents (levelEvents t.part i capacity (min 4294967295 (a.used + w)) c (saturationEvents t.events i c a w))).setStation i
    (withCharged (t.station i) w (bandRecord t.part c a capacity w))

/-- The same with the test for a write-back need of a latch newly set (R136). -/
def latchTested (t : State) (i : Station) (w : Nat) (c : CartridgeRecord) (a : Account) (capacity : Nat) : State :=
  if (bandRecord t.part c a capacity w).emptyLatch = c.emptyLatch then bandCharged t i w c a capacity
  else afterNeed (bandCharged t i w c a capacity) i (bandRecord t.part c a capacity w)

theorem latchTested_frame : (latchTested t i w c a capacity).station i = withCharged (t.station i) w (bandRecord t.part c a capacity w) ∧
    (latchTested t i w c a capacity).part = t.part ∧
    afterNeed (latchTested t i w c a capacity) i (bandRecord t.part c a capacity w) =
      afterNeed (bandCharged t i w c a capacity) i (bandRecord t.part c a capacity w) := by
  have hstation : (bandCharged t i w c a capacity).station i = withCharged (t.station i) w (bandRecord t.part c a capacity w) :=
    State.setStation_station_same ..
  unfold latchTested
  split
  · exact ⟨hstation, rfl, rfl⟩
  · exact ⟨(afterNeed_station ..).trans hstation, (afterNeed_part ..).trans rfl, afterNeed_idem ..⟩

theorem chargedWith_eq : chargedWith t i w c a capacity =
    if c.overdrawRaised = true ∨ min 4294967295 (a.used + w) - capacity ≤ (t.station i).config.swapReserve + t.part.tolerance then
      afterNeed (bandCharged t i w c a capacity) i (bandRecord t.part c a capacity w)
    else
      (((latchTested t i w c a capacity).setStation i (withCharged (t.station i) w
        { bandRecord t.part c a capacity w with overdrawRaised := true })).recordEvidence i .overdraw).testWriteBack i := by
  rw [testWriteBack_of_record]
  rfl

/-- A charge with the checks after it, of a record with figures (R120, R134). -/
theorem chargeCartridge_eq (hc : (t.station i).cartridge = some c) (hcapacity : c.capacity = some capacity) (ha : c.account = some a) :
    t.chargeCartridge i w = chargedWith t i w c a capacity := by
  have hfigures := chargeFigures_of_account (t := t) (i := i) (w := w) hc ha
  have hrecord : ((t.chargeFigures i w).station i) = withCharged (t.station i) w (usedCharged c a w) := by
    rw [hfigures, State.setStation_station_same]
  have hband : (t.chargeFigures i w).computeBand i = latchTested t i w c a capacity := by
    rw [computeBand_eq, bandComputed_of_figures (c := usedCharged c a w) (by rw [hrecord]; rfl) hcapacity rfl, hrecord, hfigures]
    dsimp only
    rw [setStation_withEvents_setStation]
    rfl
  obtain ⟨hstation, hpart, hneed⟩ := latchTested_frame (t := t) (i := i) (w := w) (c := c) (a := a) (capacity := capacity)
  have hc1 : ((latchTested t i w c a capacity).station i).cartridge = some (bandRecord t.part c a capacity w) := by rw [hstation]; rfl
  have htest : (latchTested t i w c a capacity).testOverdraw i =
      if c.overdrawRaised = true ∨ min 4294967295 (a.used + w) - capacity ≤ (t.station i).config.swapReserve + t.part.tolerance then
        latchTested t i w c a capacity
      else ((latchTested t i w c a capacity).setStation i (withCharged (t.station i) w
        { bandRecord t.part c a capacity w with overdrawRaised := true })).recordEvidence i .overdraw := by
    rw [testOverdraw_of_figures hc1 hcapacity rfl, hpart, hstation]
    rfl
  rw [State.chargeCartridge, State.chargeChecks, hband, htest, chargedWith_eq]
  by_cases h : c.overdrawRaised = true ∨ min 4294967295 (a.used + w) - capacity ≤ (t.station i).config.swapReserve + t.part.tolerance
  · rw [if_pos h, if_pos h, testWriteBack_eq hc1, hneed]
  · rw [if_neg h, if_neg h]

/-! ### What a charge and its checks leave alone -/

/-- What the checks on a station's figures keep: the other stations, the station's metering fields and the figures of its record; and in HALTED
its lifecycle state and the requested writes too (R126, R134, R152). -/
structure KeepsFigures (i : Station) (s t : State) : Prop where
  others : ∀ j : Station, j ≠ i → t.station j = s.station j
  metering : (t.station i).meter = (s.station i).meter
  figures : ∀ c, (s.station i).cartridge = some c → ∃ c', (t.station i).cartridge = some c' ∧ c'.account = c.account ∧
    c'.usedSaturated = c.usedSaturated ∧ c'.capacity = c.capacity ∧ c'.identity = c.identity
  operating : t.operating = s.operating
  halted : s.operating = .halted → (t.station i).lifecycle = (s.station i).lifecycle ∧ t.writes = s.writes

namespace KeepsFigures

variable {s u : State}

theorem refl (i : Station) (s : State) : KeepsFigures i s s :=
  ⟨fun _ _ => rfl, rfl, fun c hc => ⟨c, hc, rfl, rfl, rfl, rfl⟩, rfl, fun _ => ⟨rfl, rfl⟩⟩

theorem trans (h : KeepsFigures i s t) (h' : KeepsFigures i t u) : KeepsFigures i s u where
  others j hj := (h'.others j hj).trans (h.others j hj)
  metering := h'.metering.trans h.metering
  figures c hc := by
    obtain ⟨c1, hc1, ha1, hs1, hk1, hi1⟩ := h.figures c hc
    obtain ⟨c2, hc2, ha2, hs2, hk2, hi2⟩ := h'.figures c1 hc1
    exact ⟨c2, hc2, ha2.trans ha1, hs2.trans hs1, hk2.trans hk1, hi2.trans hi1⟩
  operating := h'.operating.trans h.operating
  halted hop := by
    obtain ⟨hl, hw⟩ := h.halted hop
    obtain ⟨hl', hw'⟩ := h'.halted (h.operating.trans hop)
    exact ⟨hl'.trans hl, hw'.trans hw⟩

/-- An operation that leaves the station records, the operating state and the writes alone. -/
theorem of_stations (hs : t.stations = s.stations) (ho : t.operating = s.operating) (hw : t.writes = s.writes) : KeepsFigures i s t := by
  have hr (k : Station) : t.station k = s.station k := station_congr hs
  exact ⟨fun j _ => hr j, by rw [hr], fun c hc => ⟨c, by rw [hr, hc], rfl, rfl, rfl, rfl⟩, ho, fun _ => ⟨by rw [hr], hw⟩⟩

theorem raised (h : KeepsFigures i s t) (k : EventKind) (p : Place) (v : Nat) : KeepsFigures i s (t.raise k p v) :=
  h.trans (.of_stations (by simp) (by simp) (by simp))

/-- A change of a cartridge record that keeps its figures. -/
theorem modCartridge {f : CartridgeRecord → CartridgeRecord} (hf : ∀ c, (f c).account = c.account ∧ (f c).usedSaturated = c.usedSaturated ∧
    (f c).capacity = c.capacity ∧ (f c).identity = c.identity) : KeepsFigures i s (s.modCartridge i f) where
  others j hj := modStation_station_other hj _
  metering := by simp
  figures c hc := ⟨f c, by simp [hc], hf c⟩
  operating := rfl
  halted _ := by simp

end KeepsFigures

theorem keepsFigures_testWriteBack (s : State) (i : Station) : KeepsFigures i s (s.testWriteBack i) := .of_stations (by simp) (by simp) (by simp)

theorem keepsFigures_noteBand (s : State) (i : Station) (held : Option LevelBand) (b : LevelBand) : KeepsFigures i s (s.noteBand i held b) := by
  unfold State.noteBand
  split_ifs
  · exact .refl i s
  · exact .modCartridge fun _ => ⟨rfl, rfl, rfl, rfl⟩
  · refine .raised ?_ _ _ _
    exact .modCartridge fun _ => ⟨rfl, rfl, rfl, rfl⟩

theorem keepsFigures_noteEmpty (s : State) (i : Station) (c : CartridgeRecord) (used : Nat) : KeepsFigures i s (s.noteEmpty i c used) := by
  have hnoted : KeepsFigures i s ((s.modCartridge i (fun c => { c with emptyLatch := true, emptyRaised := true })).raise .cartridgeEmpty
      (some i) used) := by
    refine .raised ?_ _ _ _
    exact .modCartridge fun _ => ⟨rfl, rfl, rfl, rfl⟩
  unfold State.noteEmpty
  split_ifs
  · exact .refl i s
  · exact hnoted
  · exact hnoted.trans (keepsFigures_testWriteBack _ i)

theorem keepsFigures_computeBand (s : State) (i : Station) : KeepsFigures i s (s.computeBand i) := by
  unfold State.computeBand
  split
  · exact .refl i s
  · split
    · dsimp only
      split_ifs
      · exact (keepsFigures_noteBand s i _ _).trans (keepsFigures_noteEmpty _ i _ _)
      · exact keepsFigures_noteBand s i _ _
    · exact .refl i s

theorem keepsFigures_applyRefillPolicy (s : State) (i : Station) : KeepsFigures i s (s.applyRefillPolicy i) := by
  unfold State.applyRefillPolicy
  split
  next hop _ _ =>
    have hq : ((s.enterQuarantined i .refill).station i) = (s.station i).quarantined .refill := by
      simp [State.enterQuarantined, station_congr (State.abandonContext_frame _ i).2.2.2.2.2.2.1]
    exact {
      others := fun j hj => enterQuarantined_station_other hj s .refill
      metering := by rw [hq]; rfl
      figures := fun c hc => ⟨{ c with cause := some .refill }, by rw [hq, StationRec.quarantined, hc]; rfl, rfl, rfl, rfl, rfl⟩
      operating := by simp
      halted := fun hhalted => absurd (hop.symm.trans hhalted) (by decide) }
  next => exact .refl i s

theorem keepsFigures_writeCheckpoint (s : State) (i : Station) : KeepsFigures i s (s.writeCheckpoint i) := by
  unfold State.writeCheckpoint
  split
  next hop _ => exact ⟨fun _ _ => rfl, rfl, fun c hc => ⟨c, hc, rfl, rfl, rfl, rfl⟩, rfl, fun h => absurd (hop.symm.trans h) (by decide)⟩
  next => exact .refl i s

theorem keepsFigures_recordEvidence (s : State) (i : Station) (k : EvidenceKind) : KeepsFigures i s (s.recordEvidence i k) := by
  unfold State.recordEvidence
  split
  · exact .refl i s
  · split
    · have h1 : KeepsFigures i s (s.modCartridge i (CartridgeRecord.withEvidence k)) := .modCartridge fun _ => ⟨rfl, rfl, rfl, rfl⟩
      refine .trans (.raised ?_ _ _ _) (keepsFigures_applyRefillPolicy _ i)
      split_ifs
      · exact h1
      · exact h1.trans (keepsFigures_testWriteBack _ i)
      · exact h1.trans (keepsFigures_writeCheckpoint _ i)
      · exact (h1.trans (keepsFigures_testWriteBack _ i)).trans (keepsFigures_writeCheckpoint _ i)
    · refine .raised ?_ _ _ _
      exact .modCartridge fun _ => ⟨rfl, rfl, rfl, rfl⟩

theorem keepsFigures_testOverdraw (s : State) (i : Station) : KeepsFigures i s (s.testOverdraw i) := by
  unfold State.testOverdraw
  split
  · exact .refl i s
  · split
    · split_ifs
      · refine .trans ?_ (keepsFigures_recordEvidence _ i _)
        exact .modCartridge fun _ => ⟨rfl, rfl, rfl, rfl⟩
      · exact .refl i s
    · exact .refl i s

theorem keepsFigures_chargeChecks (s : State) (i : Station) : KeepsFigures i s (s.chargeChecks i) :=
  ((keepsFigures_computeBand s i).trans (keepsFigures_testOverdraw _ i)).trans (keepsFigures_testWriteBack _ i)

/-! ## Deliveries (R119, R121) -/

theorem oldestDelivery_of_none {ds : List Delivery} (h : ∀ d ∈ ds, d.station ≠ i) : oldestDelivery i ds = none := by
  induction ds with
  | nil => rfl
  | cons d ds ih => rw [oldestDelivery, if_neg (h d (by simp)), ih fun x hx => h x (by simp [hx])]

theorem oldestDelivery_append {pre post : List Delivery} (h : ∀ d ∈ pre, d.station ≠ i) :
    oldestDelivery i (pre ++ ⟨i, w⟩ :: post) = some (w, pre ++ post) := by
  induction pre with
  | nil => exact if_pos rfl
  | cons d pre ih => rw [List.cons_append, oldestDelivery, if_neg (h d (by simp)), ih fun x hx => h x (by simp [hx])]; rfl

theorem exec_wDelivery {s : State} (hs : up s) : goesTo (exec (.wDelivery i) s) (s.takeDelivery i) :=
  congrArg Host.Outcome.next (whenRunning_of_up hs _)

/-- A charge to the debt within the swap reserve (R121). -/
theorem chargeDebt_within (h : (t.station i).meter.debt + w ≤ (t.station i).config.swapReserve)
    (hdry : (t.station i).meter.dryOverflow ≤ 4294967295) :
    t.chargeDebt i w = t.setStation i { t.station i with meter := { (t.station i).meter with debt := (t.station i).meter.debt + w } } := by
  have hpart : (t.station i).debtPart w = w := by rw [StationRec.debtPart]; omega
  have hover : satAdd 4294967295 (t.station i).meter.dryOverflow (w - w) = (t.station i).meter.dryOverflow := by
    rw [Nat.sub_self, satAdd_eq_min, Nat.add_zero, Nat.min_eq_right hdry]
  simp only [State.chargeDebt, hpart, lt_irrefl, if_false, State.modStation, StationRec.chargeDebt, Config.maxNl, hover]

/-- A charge to the debt beyond the swap reserve: the rest is dry overflow (R121). -/
theorem chargeDebt_beyond (hdebt : (t.station i).meter.debt ≤ (t.station i).config.swapReserve)
    (h : (t.station i).config.swapReserve < (t.station i).meter.debt + w) :
    let dry := min 4294967295 ((t.station i).meter.dryOverflow + ((t.station i).meter.debt + w - (t.station i).config.swapReserve))
    t.chargeDebt i w = (t.setStation i { t.station i with
      meter := { (t.station i).meter with debt := (t.station i).config.swapReserve, dryOverflow := dry } }).raiseCondition (.reservoirDry i) dry := by
  have hpart : (t.station i).debtPart w = (t.station i).config.swapReserve - (t.station i).meter.debt := by rw [StationRec.debtPart]; omega
  have hsum : (t.station i).meter.debt + ((t.station i).config.swapReserve - (t.station i).meter.debt) = (t.station i).config.swapReserve := by
    omega
  have hrest : w - ((t.station i).config.swapReserve - (t.station i).meter.debt) =
      (t.station i).meter.debt + w - (t.station i).config.swapReserve := by omega
  have hlt : (t.station i).config.swapReserve - (t.station i).meter.debt < w := by omega
  simp only [State.chargeDebt, hpart, hlt, if_true, State.modStation, StationRec.chargeDebt, hsum, hrest, satAdd_eq_min, Config.maxNl,
    State.setStation_station_same]

end

/-- Settles O44, by the states that charge the cartridge and those that charge the debt. -/
theorem deliveriesGoWhereTheStateSends : Obligations.DeliveriesGoWhereTheStateSends := by
  intro s i pre post w hs
  have hexec := exec_wDelivery (i := i) hs
  refine ⟨fun hnone => ?_, fun hd hpre => ?_⟩
  · rwa [State.takeDelivery, oldestDelivery_of_none hnone] at hexec
  intro r rest
  rw [State.takeDelivery, hd, oldestDelivery_append hpre] at hexec
  change goesTo _ (rest.routeDelivery i w) at hexec
  have hr : rest.station i = r := rfl
  refine ⟨fun hactive hdeparting hdebt hdry => ?_, fun c a hl hc ha => ⟨?_, fun capacity hcapacity => ?_⟩⟩
  · have hcharges : r.lifecycle.charges = false := by cases hl : r.lifecycle <;> simp_all [Lifecycle.charges]
    rw [State.routeDelivery, hr, hcharges] at hexec
    refine ⟨fun hroom => ?_, fun hover dry hdryeq => ?_⟩
    · exact chargeDebt_within (t := rest) (i := i) hroom hdry ▸ hexec
    · rw [hdryeq]
      exact chargeDebt_beyond (t := rest) (i := i) hdebt hover ▸ hexec
  all_goals
    have hcharges : r.lifecycle.charges = true := by rcases hl with h | h <;> rw [h] <;> rfl
    rw [State.routeDelivery, hr, hcharges, if_pos rfl] at hexec
  · have hkeeps := keepsFigures_chargeChecks (rest.chargeFigures i w) i
    have hother (j : Station) (hj : j ≠ i) : (rest.chargeFigures i w).station j = s.station j := by
      rw [chargeFigures_of_account (t := rest) (i := i) hc ha]
      exact State.setStation_station_other _ i j _ hj
    have hown : (rest.chargeFigures i w).station i = withCharged r w (usedCharged c a w) := by
      rw [chargeFigures_of_account (t := rest) (i := i) hc ha, State.setStation_station_same, hr]
    obtain ⟨c', hc', ha', hsat', hcap', hid'⟩ := hkeeps.figures (usedCharged c a w) (by rw [hown]; rfl)
    refine ⟨_, c', _, hexec, hc', ha', rfl, rfl, rfl, hsat', hcap', hid', ?_, fun j hj => (hkeeps.others j hj).trans (hother j hj),
      by simp [State.chargeCartridge, rest], by simp [State.chargeCartridge, rest], by simp [State.chargeCartridge, rest],
      by simp [State.chargeCartridge, rest], by simp [State.chargeCartridge, rest], by simp [State.chargeCartridge, rest], fun hhalted => ?_⟩
    · exact hkeeps.metering.trans (by rw [hown]; rfl)
    · obtain ⟨hl', hw'⟩ := hkeeps.halted (by simpa [rest] using hhalted)
      exact ⟨hl'.trans (by rw [hown]; rfl), hw'.trans (by simp [rest])⟩
  · rwa [chargeCartridge_eq (t := rest) (i := i) hc hcapacity ha] at hexec

end Sys2Proof.Laws
end

section
set_option Elab.async false
/-! PROOFS. The entry to ACTIVE (R9, R132) in the words of the statements, and ADMIT (O34). -/

namespace Sys2Proof.Laws

open Sys2Proof.Machine Sys2Proof.Safety

/-! ## The end of a condition beside other changes -/

/-- A raise that meets no arm flag leaves the arm flags alone, and they have no part in it (R165). -/
theorem raise_none_armed (q : EventQueue) (k : EventKind) (p : Place) (v : Nat) (x : Vector Bool 30) :
    (q.raise none k p v).armed = q.armed ∧ EventQueue.raise { q with armed := x } none k p v = { q.raise none k p v with armed := x } := by
  have hmasked : EventQueue.isMasked { q with armed := x } k = q.isMasked k := rfl
  have hdisarmed (q : EventQueue) : q.isDisarmed none = false := rfl
  simp only [EventQueue.raise, hmasked, hdisarmed, Bool.false_eq_true, if_false]
  split_ifs <;> exact ⟨rfl, rfl⟩

section
variable {t : State} {i : Station} {c : CartridgeRecord} {a : Account} {capacity w : Nat}

theorem modStation_endCondition (t : State) (i : Station) (f : StationRec → StationRec) (d : Condition) :
    (t.modStation i f).endCondition d = (t.endCondition d).modStation i f := by
  have hstands : (t.modStation i f).stands d = t.stands d := rfl
  unfold State.endCondition
  rw [hstands]
  split <;> rfl

theorem saturationEvents_armed (q : EventQueue) (i : Station) (c : CartridgeRecord) (a : Account) (w : Nat) (x : Vector Bool 30) :
    (saturationEvents q i c a w).armed = q.armed ∧
    saturationEvents { q with armed := x } i c a w = { saturationEvents q i c a w with armed := x } := by
  unfold saturationEvents
  split
  · exact raise_none_armed q _ _ _ x
  · exact ⟨rfl, rfl⟩

/-- The end of a condition and a charge of the figures, in either order. -/
theorem chargeFigures_endCondition (hc : (t.station i).cartridge = some c) (ha : c.account = some a) (d : Condition) :
    (t.chargeFigures i w).endCondition d = (t.endCondition d).chargeFigures i w := by
  have hstation : (t.endCondition d).station i = t.station i := station_congr (by simp)
  rw [chargeFigures_of_account hc ha, chargeFigures_of_account (by rw [hstation, hc]) ha, hstation]
  have hstands : ((t.withEvents (saturationEvents t.events i c a w)).setStation i (withCharged (t.station i) w (usedCharged c a w))).stands d
      = t.stands d := rfl
  unfold State.endCondition
  rw [hstands]
  obtain ⟨harmed, hset⟩ := saturationEvents_armed t.events i c a w (t.events.armed.set d.number true)
  split
  · simp only [State.withEvents_events, State.setStation_events, harmed, hset]
    rfl
  · rfl

/-- The debt taken to 0 and a charge of the figures, in either order. -/
theorem chargeFigures_clearDebt (hc : (t.station i).cartridge = some c) (ha : c.account = some a) :
    (t.chargeFigures i w).modStation i StationRec.clearDebt = (t.modStation i StationRec.clearDebt).chargeFigures i w := by
  have hstation : (t.modStation i StationRec.clearDebt).station i = (t.station i).clearDebt := modStation_station_same _
  rw [chargeFigures_of_account hc ha, chargeFigures_of_account (c := c) (by rw [hstation]; exact hc) ha, hstation, modStation_setStation]
  exact (setStation_setStation (t.withEvents (saturationEvents t.events i c a w)) i _ _).symm

/-- The entry to ACTIVE of a station whose record has figures (R9, R132). -/
theorem enterActive_eq (hc : (t.station i).cartridge = some c) (hcapacity : c.capacity = some capacity) (ha : c.account = some a) :
    t.enterActive i = madeActive t i c a capacity := by
  let entered := t.setStation i
    { t.station i with lifecycle := .active, cartridge := some { c with cause := none }, meter := { (t.station i).meter with debt := 0 } }
  let ended := if 0 < (t.station i).config.swapReserve then entered.endCondition (.reservoirDry i) else entered
  have hactivated : (t.modStation i StationRec.activated).station i =
      { t.station i with lifecycle := .active, cartridge := some { c with cause := none } } := by
    rw [modStation_station_same, StationRec.activated, hc]
    rfl
  have hcleared : (t.modStation i StationRec.activated).modStation i StationRec.clearDebt = entered := by
    rw [State.modStation, hactivated, State.modStation, setStation_setStation]
    rfl
  have hentered : (entered.station i).cartridge = some { c with cause := none } := by rw [State.setStation_station_same]
  have hended : (ended.station i).cartridge = some { c with cause := none } := by
    rw [station_congr (s := entered) (by unfold ended; split <;> simp), hentered]
  have htransfer : (t.modStation i StationRec.activated).activationTransfer i =
      chargedWith ended i (t.station i).meter.debt { c with cause := none } a capacity := by
    rw [← chargeCartridge_eq hended hcapacity ha, State.activationTransfer, hactivated, State.chargeCartridge,
      chargeFigures_clearDebt (c := { c with cause := none }) (by rw [hactivated]) ha, hcleared]
    unfold ended
    by_cases hreserve : 0 < (t.station i).config.swapReserve
    · rw [if_pos hreserve, if_pos hreserve, chargeFigures_endCondition hentered ha]
    · rw [if_neg hreserve, if_neg hreserve]
  have htrust : ∀ u : State, u.trustValue i = match (u.station i).cartridge with
      | some c1 => trustNumber c1.trust
      | none => 0 := fun u => by
    rw [State.trustValue]
    cases (u.station i).cartridge with
    | none => rfl
    | some c1 => exact trustCode_eq c1.trust
  rw [State.enterActive, htransfer, htrust]
  rfl

end

/-! ## ADMIT -/

section
variable {s : State} {i : Station} {tag b : Byte} {rest : List Byte} {c : CartridgeRecord} {cause : QuarantineCause}

theorem exec_admit (hh : handed s .admitCartridge tag (b :: rest)) :
    goesTo (exec .admitCartridge s) (s.ownAdmit ⟨.admitCartridge, tag, b :: rest⟩) :=
  congrArg Host.Outcome.next (serve_of_handed hh State.ownAdmit)

theorem answer_admit (s : State) (tag : Byte) (body : List Byte) (status : Status) :
    s.answer ⟨.admitCartridge, tag, body⟩ status [] = replied s 0x8C tag status [] := by
  rw [answer_eq_replied, replyKind_code]
  rfl

/-- The record's key index names a slot that is REVOKED (R17). -/
theorem slotRevoked_iff : s.slotRevoked c = true ↔
    ∃ id, c.identity = some id ∧ ∃ k : KeySlot, id.keyIndex = k.val ∧ (s.store.keySlots[k]).state = .revoked := by
  simp only [State.slotRevoked, Option.any_eq_true, beq_iff_eq]
  refine exists_congr fun id => and_congr_right fun _ => ?_
  unfold State.keyState
  constructor
  · intro h
    split at h
    next hk => exact ⟨⟨id.keyIndex, hk⟩, rfl, Option.some.inj h⟩
    next => cases h
  · rintro ⟨k, hk, hstate⟩
    have hlt : id.keyIndex < 4 := hk ▸ k.isLt
    rw [dif_pos hlt]
    simp only [hk]
    exact congrArg some hstate

theorem holdsSerial_iff (l : Lifecycle) : l.holdsSerial = true ↔
    l = .identifying ∨ l = .authenticating ∨ l = .active ∨ l = .quarantined ∨ l = .departing := by
  cases l <;> decide

/-- Another station holds the serial (R13 check 4, R17). -/
theorem heldElsewhere_iff (serial : Serial) : s.heldElsewhere i serial = true ↔
    ∃ (j : Station) (d : CartridgeRecord) (jd : Identity), j ≠ i ∧ (s.station j).cartridge = some d ∧ d.identity = some jd ∧
      jd.serial = serial ∧ ((s.station j).lifecycle = .identifying ∨ (s.station j).lifecycle = .authenticating ∨
        (s.station j).lifecycle = .active ∨ (s.station j).lifecycle = .quarantined ∨ (s.station j).lifecycle = .departing) := by
  have hall : ∀ j : Station, j ∈ stationList := by decide
  simp only [State.heldElsewhere, List.any_eq_true, Bool.and_eq_true, bne_iff_ne, Option.any_eq_true, Option.bind_eq_some_iff, beq_iff_eq,
    holdsSerial_iff]
  constructor
  · rintro ⟨j, -, ⟨hj, hl⟩, jd, ⟨d, hd, hid⟩, hserial⟩
    exact ⟨j, d, jd, hj, hd, hid, hserial, hl⟩
  · rintro ⟨j, d, jd, hj, hd, hid, hserial, hl⟩
    exact ⟨j, hall j, ⟨hj, hl⟩, jd, ⟨d, hd, hid⟩, hserial⟩

/-- The figures supplied for a cartridge that is not authenticated and has none (R17, R135). -/
def suppliedWith (c : CartridgeRecord) (capacity : Nat) (a : Account) : CartridgeRecord :=
  { c with capacity := some capacity, account := some a }

/-- The figures supplied come from the tag where its identity is recorded, and otherwise from the defaults (R17, R135). -/
theorem supplied_eq {capacity defaultCapacity : Nat} {a : Account}
    (h : (∃ id, c.identity = some id ∧ c.capacity = some capacity ∧ a = ⟨id.tagUsed, id.tagUsed, id.tagUsed, id.tagFlags⟩) ∨
      (c.identity = none ∧ capacity = defaultCapacity ∧ a = ⟨0, 0, 0, ⟨false, false⟩⟩)) :
    c.supplied defaultCapacity = suppliedWith c capacity a := by
  rcases h with ⟨id, hid, hcapacity, rfl⟩ | ⟨hid, rfl, rfl⟩
  · simp only [CartridgeRecord.supplied, suppliedWith, hid, ← hcapacity]
  · simp only [CartridgeRecord.supplied, suppliedWith, hid, TagFlags.clear]

/-- The supply of the figures, with the level band computed: a QUARANTINED station has no write-back need (R17, R128, R136). -/
theorem supplyFigures_eq {capacity : Nat} {a : Account} (hl : (s.station i).lifecycle = .quarantined) (hc : (s.station i).cartridge = some c)
    (hauth : c.authenticated = false) (hnone : c.account = none)
    (hsupplied : c.supplied (s.station i).config.defaultCapacity = suppliedWith c capacity a) : s.supplyFigures i c =
      (s.withEvents (levelEvents s.part i capacity a.used (suppliedWith c capacity a) s.events)).setStation i
        { s.station i with cartridge := some (withLevel s.part capacity a.used (suppliedWith c capacity a)) } := by
  have hneed : ∀ (x : State) (c1 : CartridgeRecord), (x.station i).lifecycle = .quarantined → afterNeed x i c1 = x := fun x c1 hx =>
    if_neg fun h => absurd (hx.symm.trans h.1) (by decide)
  have hown : (s.setStation i { s.station i with cartridge := some (suppliedWith c capacity a) }).station i =
    { s.station i with cartridge := some (suppliedWith c capacity a) } := State.setStation_station_same ..
  rw [State.supplyFigures, hauth, hnone, Option.isSome_none, Bool.or_self, if_neg Bool.false_ne_true, modCartridge_eq hc, hsupplied,
    computeBand_eq, bandComputed_of_figures (c := suppliedWith c capacity a) (by rw [hown]) rfl rfl, hown]
  have hcollapse (q : EventQueue) (r r' : StationRec) : ((s.setStation i r).withEvents q).setStation i r' = (s.withEvents q).setStation i r' :=
    setStation_setStation (s.withEvents q) i r r'
  dsimp only
  rw [hcollapse, hneed _ _ (by rw [State.setStation_station_same, hl]), ite_self]
  rfl

/-- The account of an authenticated cartridge disowned (R17, R44). -/
theorem disown_eq (s : State) (i : Station) (c : CartridgeRecord) : s.disown i c =
    if c.authenticated = true then (s.withBus { s.bus with jobs := withdrawnJobs s.bus.jobs i }).withWrites (s.writes ++ [⟨.checkpoint i none, false⟩])
    else s := by
  rw [State.disown, withdrawWriteBack_eq]
  rfl

theorem ownAdmit_of_quarantined (hb : b.toNat = i.val) (hl : (s.station i).lifecycle = .quarantined) (hc : (s.station i).cartridge = some c) :
    s.ownAdmit ⟨.admitCartridge, tag, b :: rest⟩ = match s.admission i c with
      | .refuse => replied s 0x8C tag .refused []
      | .asRefilled => replied (s.enterActive i) 0x8C tag .ok []
      | .asUnverified => replied (s.admitUnverified i c) 0x8C tag .ok [] := by
  rw [State.ownAdmit, bodyStation_cons hb]
  simp only [hl, hc, State.admitQuarantined, answer_admit] <;> rfl

theorem ownAdmit_of_other (hb : b.toNat = i.val) (hl : (s.station i).lifecycle ≠ .quarantined) :
    s.ownAdmit ⟨.admitCartridge, tag, b :: rest⟩ = replied s 0x8C tag .wrongState [] := by
  rw [State.ownAdmit, bodyStation_cons hb, ← answer_admit]
  split
  next h _ => exact absurd h hl
  next => rfl

theorem admission_eq (hcause : c.cause = some cause) : s.admission i c =
    if s.slotRevoked c = true then .refuse else s.admissionFor i c cause := by
  rw [State.admission, hcause]

theorem admissionFor_duplicate : s.admissionFor i c .duplicate =
    if ∃ id, c.identity = some id ∧ s.heldElsewhere i id.serial = true then .refuse else .asUnverified := by
  rw [State.admissionFor]
  cases c.identity with
  | none => simp
  | some id => simp

end

/-- Settles O34, by the lifecycle state, and in QUARANTINED by what the cause and the record's slot decide. -/
theorem admitRefusesOrActivates : Obligations.AdmitRefusesOrActivates := by
  intro s i tag b rest hh hb
  have hexec := exec_admit hh
  refine ⟨fun hl => ?_, fun c cause hl hc hcause => ?_⟩
  · rwa [ownAdmit_of_other hb hl] at hexec
  intro revoked held
  have hrevoked : s.slotRevoked c = true ↔ revoked := slotRevoked_iff
  have hheld : (∃ id, c.identity = some id ∧ s.heldElsewhere i id.serial = true) ↔ held :=
    exists_congr fun id => and_congr_right fun _ => heldElsewhere_iff id.serial
  rw [ownAdmit_of_quarantined hb hl hc, admission_eq hcause] at hexec
  refine ⟨fun hrefused => ?_, fun hslot hrefill a capacity ha hcapacity => ?_, fun hslot hcauses a capacity hfigures => ?_⟩
  · have hrefuse : (if s.slotRevoked c = true then Admission.refuse else s.admissionFor i c cause) = .refuse := by
      by_cases hslot : s.slotRevoked c = true
      · rw [if_pos hslot]
      · rw [if_neg hslot]
        rcases hrefused with rfl | rfl | h | ⟨rfl, h⟩
        · rfl
        · rfl
        · exact absurd (hrevoked.mpr h) hslot
        · rw [admissionFor_duplicate, if_pos (hheld.mpr h)]
    rwa [hrefuse] at hexec
  · rw [if_neg fun h => hslot (hrevoked.mp h), hrefill] at hexec
    exact enterActive_eq hc hcapacity ha ▸ hexec
  · have hadmitted : s.admissionFor i c cause = .asUnverified := by
      rcases hcauses with rfl | rfl | rfl | rfl | rfl | ⟨rfl, h⟩
      any_goals rfl
      rw [admissionFor_duplicate, if_neg fun hd => h (hheld.mp hd)]
    rw [if_neg fun h => hslot (hrevoked.mp h), hadmitted] at hexec
    intro supplied known admitted disowned ready
    have hready : s.admitUnverified i c = ready.enterActive i := by
      rcases hfigures with ⟨ha, -⟩ | ⟨hnone, hauth, hsource⟩
      · have hsome : c.account ≠ none := by simp [ha]
        have hevents : ready = disowned.setStation i { disowned.station i with cartridge := some { c with authenticated := false, trust := .unverified } } := by
          simp only [ready, admitted, known, if_neg hsome, disowned]
          split <;> rfl
        have hdisowned : (disowned.station i).cartridge = some c := by
          simp only [disowned]
          split <;> exact hc
        rw [State.admitUnverified, State.supplyFigures, if_pos (by simp [ha]), disown_eq, modCartridge_eq hdisowned, hevents]
      · have hdisowned : disowned = s := if_neg (by simp [hauth])
        have hknown : known = withLevel s.part capacity a.used (suppliedWith c capacity a) := if_pos hnone
        have hsupplied := supplied_eq (defaultCapacity := (s.station i).config.defaultCapacity) hsource
        rw [State.admitUnverified, supplyFigures_eq hl hc hauth hnone hsupplied, disown_eq, if_neg (by simp [hauth]), State.modCartridge,
          modStation_setStation]
        simp only [ready, hdisowned, if_pos hnone, admitted, hknown]
        rfl
    have hown : (ready.station i).cartridge = some admitted := by rw [State.setStation_station_same]
    have hfigured : known.account = some a ∧ known.capacity = some capacity := by
      rcases hfigures with ⟨ha, hcapacity⟩ | ⟨hnone, -, -⟩
      · have hknown : known = c := if_neg (by simp [ha])
        rw [hknown]
        exact ⟨ha, hcapacity⟩
      · have hknown : known = withLevel s.part capacity a.used supplied := if_pos hnone
        rw [hknown]
        exact ⟨rfl, rfl⟩
    obtain ⟨ha, hcapacity⟩ := hfigured
    rw [← enterActive_eq hown hcapacity ha, ← hready]
    exact hexec

end Sys2Proof.Laws
end

section
set_option Elab.async false
/-! PROOFS. The arbiter (R45, R46, R49, R138): the job that it chooses, the transaction that it opens, the payload of a usage write, and
ARBITER_START_JOB (O45). -/

namespace Sys2Proof.Laws

open Sys2Proof.Machine Sys2Proof.Safety

/-! ## The bytes of a usage write -/

theorem byteSum_append (bytes : List Byte) (b : Byte) : byteSum (bytes ++ [b]) = byteSum bytes + b := by simp [byteSum]

/-- A record's sum as a number (R2). -/
theorem byteSum_toNat (bytes : List Byte) : (byteSum bytes).toNat = (bytes.map (·.toNat)).sum % 256 := by
  induction bytes using List.reverseRecOn with
  | nil => rfl
  | append_singleton bytes b ih =>
    rw [byteSum_append, BitVec.toNat_add, ih, List.map_append, List.sum_append]
    simp

theorem flagsByte_usage (f : TagFlags) : [f.byte] = put 1 (f.emptyLatch.toNat + 2 * f.refillMark.toNat) := by
  obtain ⟨latch, mark⟩ := f
  cases latch <;> cases mark <;> rfl

/-- The payload of a usage write (R38). -/
theorem usageWrite_usageWriteBytes (used : Nat) (flags : TagFlags) (partId : BitVec 32) :
    usageWrite used flags partId (usageWriteBytes used flags partId) := by
  let body := beBytes 4 used ++ [flags.byte] ++ beBytes 4 partId.toNat ++ [0, 0]
  have hsum : byteSum (body ++ [checkByte body]) = 0 := by
    rw [byteSum_append, checkByte, BitVec.add_right_neg]
    rfl
  refine ⟨checkByte body, ?_, by rw [← byteSum_toNat]; exact congrArg BitVec.toNat hsum⟩
  change body ++ [checkByte body] = _
  simp only [body, beBytes_eq_put, flagsByte_usage, List.append_assoc, List.cons_append, List.nil_append]

/-! ## The transaction that a job opens -/

theorem writeTransaction_eq_tagWrite (i : Station) (offset : Nat) (bytes : List Byte) :
    writeTransaction (tagAddress i) offset bytes = tagWrite i offset bytes := by
  simp [writeTransaction, tagWrite, tagAddress, writeAddress]

/-- The transaction that opens a job's attempt or poll (R47 to R49). -/
theorem opening_eq {j : Job} (htarget : j.kind = .wake ∨ j.target ≠ none) (hlength : j.kind = .hostRead → 1 ≤ j.length) :
    j.opening = opens j := by
  unfold Job.opening opens
  cases hkind : j.kind with
  | wake => rfl
  | readId | response =>
    obtain ⟨i, hi⟩ := Option.ne_none_iff_exists'.mp (htarget.resolve_left (by simp [hkind]))
    rw [hi]
    exact readTransaction_eq_tagRead i _ _
  | challenge | writeUsage | hostWrite =>
    obtain ⟨i, hi⟩ := Option.ne_none_iff_exists'.mp (htarget.resolve_left (by simp [hkind]))
    rw [hi]
    exact writeTransaction_eq_tagWrite i _ _
  | hostRead =>
    obtain ⟨i, hi⟩ := Option.ne_none_iff_exists'.mp (htarget.resolve_left (by simp [hkind]))
    obtain ⟨n, hn⟩ := Nat.exists_eq_add_of_le' (hlength hkind)
    rw [hi, hn]
    exact readTransaction_eq_tagRead i _ _

section
variable {s : State} {pre post : List Job} {j : Job}

theorem ready_iff (j : Job) : j.ready = true ↔
    j.state = .queued ∨ ((j.state = .polling ∨ j.state = .retry) ∧ j.timer = none) := by
  unfold Job.ready
  cases j.state <;> simp

/-- In OPERATING the jobs that the arbiter may start are those of the statement (R45). -/
theorem eligible_iff (hop : s.operating = .operating) (j : Job) : s.eligible j = true ↔ mayStart s j := by
  have hcontext : j.target.any s.hasContext = true ↔ ∃ i, j.target = some i ∧ s.context i ≠ none := by
    simp [Option.any_eq_true, State.hasContext, Option.isSome_iff_ne_none]
  simp only [State.eligible, mayStart, Bool.and_eq_true, Bool.not_eq_true', Bool.and_eq_false_imp, beq_iff_eq, hop, ready_iff, and_true]
  refine and_congr_right fun _ => ?_
  rw [not_and, ← hcontext, Bool.not_eq_true]

/-- The choice of the arbiter (R45). -/
theorem arbiterChoice_eq (hop : s.operating = .operating) (hjobs : s.bus.jobs = pre ++ j :: post) (hj : mayStart s j)
    (hpre : ∀ k ∈ pre, mayStart s k → classNumber j.cls < classNumber k.cls)
    (hpost : ∀ k ∈ post, mayStart s k → classNumber j.cls ≤ classNumber k.cls) : s.arbiterChoice = some j := by
  have hmem {xs : List Job} {k : Job} : k ∈ xs.filter s.eligible ↔ k ∈ xs ∧ mayStart s k := by rw [List.mem_filter, eligible_iff hop]
  rw [State.arbiterChoice, hjobs, List.filter_append, List.filter_cons_of_pos ((eligible_iff hop j).mpr hj), oldestOfLowestClass]
  refine List.find?_eq_some_iff_append.mpr ⟨?_, pre.filter s.eligible, post.filter s.eligible, rfl, fun k hk => ?_⟩
  · rw [List.all_eq_true]
    intro k hk
    rw [decide_eq_true_eq]
    rcases List.mem_append.mp hk with hk | hk
    · exact (hpre k (hmem.mp hk).1 (hmem.mp hk).2).le
    · rcases List.mem_cons.mp hk with rfl | hk
      · exact le_rfl
      · exact hpost k (hmem.mp hk).1 (hmem.mp hk).2
  · have hlt := hpre k (hmem.mp hk).1 (hmem.mp hk).2
    rw [Bool.not_eq_true', List.all_eq_false]
    exact ⟨j, by simp, by simpa using hlt⟩

theorem arbiterChoice_of_none (hop : s.operating = .operating) (h : ∀ k ∈ s.bus.jobs, ¬ mayStart s k) : s.arbiterChoice = none := by
  have hnone : s.bus.jobs.filter s.eligible = [] := List.filter_eq_nil_iff.mpr fun k hk => by rw [eligible_iff hop]; exact h k hk
  rw [State.arbiterChoice, hnone]
  rfl

theorem arbiterFree_iff (b : Bus) : b.arbiterFree = true ↔ b.condition = .free ∧ ∀ k ∈ b.jobs, k.state ≠ .active := by
  simp only [Bus.arbiterFree, Bus.activeJob, Bool.and_eq_true, Option.isNone_iff_eq_none, List.find?_eq_none, beq_iff_eq]
  exact and_comm

/-- A job that needs no payload composed becomes ACTIVE (R45). -/
theorem startJob_of_not_composing (hq : queued s pre j post) (h : j.kind ≠ .writeUsage ∨ j.state ≠ .queued) : s.startJob j =
    s.withBus { s.bus with jobs := pre ++ j.started :: post, condition := .own, transaction := some ⟨s.part.busSpeed, j.opening⟩ } := by
  have hcomposes : j.composes = false := by simpa [Job.composes, ← not_and_or] using h
  rw [State.startJob, hcomposes, State.openTransaction, updateJob_of_queued hq]

/-- A write-back that has never started takes its payload from the record, whose base becomes what is written (R138). -/
theorem startJob_of_composing {i : Station} {c : CartridgeRecord} {a : Account} (hq : queued s pre j post) (hkind : j.kind = .writeUsage)
    (hstate : j.state = .queued) (ht : j.target = some i) (hc : (s.station i).cartridge = some c) (ha : c.account = some a) :
    let composed := { j with
      payload := some (usageWriteBytes a.used ⟨c.emptyLatch, c.refillMark⟩ s.store.partId)
      written := some (a.used, ⟨c.emptyLatch, c.refillMark⟩) }
    s.startJob j = (s.setStation i { s.station i with cartridge := some { c with
      account := some { a with baseUsed := a.used, baseFlags := ⟨c.emptyLatch, c.refillMark⟩ } } }).withBus { s.bus with
        jobs := pre ++ composed.started :: post, condition := .own, transaction := some ⟨s.part.busSpeed, opens composed.started⟩ } := by
  intro composed
  have hopening : composed.started.opening = opens composed.started :=
    opening_eq (.inr (ht.trans_ne (Option.some_ne_none i))) fun h => absurd (hkind.symm.trans h) (by decide)
  have hcomposes : j.composes = true := by simp [Job.composes, hkind, hstate]
  have hrebased : c.rebased = { c with account := some { a with baseUsed := a.used, baseFlags := ⟨c.emptyLatch, c.refillMark⟩ } } := by
    rw [CartridgeRecord.rebased, ha]
    rfl
  rw [State.startJob, hcomposes, ht, ← hopening]
  simp only [modCartridge_eq hc, State.openTransaction, State.setStation_bus, updateJob_of_queued hq, hrebased, Job.composed, hc, Option.bind_some, ha]
  rfl

theorem exec_arbiterStartJob (hs : serving s) : goesTo (exec .arbiterStartJob s)
    (if s.bus.arbiterFree then (match s.arbiterChoice with | some j => s.startJob j | none => s) else s) :=
  congrArg Host.Outcome.next (whenInService_of_serving hs _)

end

/-- Settles O45, by the arbiter's choice and by whether the job composes its payload. -/
theorem arbiterStartsOldestOfLowestClass : Obligations.ArbiterStartsOldestOfLowestClass := by
  intro s pre post j hs
  have hexec := exec_arbiterStartJob hs
  refine ⟨fun hno => ?_, fun hfree hq hidle hj hpre hpost htarget hlength => ?_⟩
  · by_cases hf : s.bus.arbiterFree = true
    · obtain ⟨hcondition, hidle⟩ := (arbiterFree_iff _).mp hf
      have hnone : ∀ k ∈ s.bus.jobs, ¬ mayStart s k := by
        rcases hno with h | ⟨k, hk, h⟩ | h
        · exact absurd hcondition h
        · exact absurd h (hidle k hk)
        · exact h
      rwa [if_pos hf, arbiterChoice_of_none hs.2 hnone] at hexec
    · rwa [if_neg hf] at hexec
  intro started opened
  rw [if_pos ((arbiterFree_iff _).mpr ⟨hfree, hidle⟩), arbiterChoice_eq hs.2 hq.1 hj hpre hpost] at hexec
  change goesTo _ (s.startJob j) at hexec
  refine ⟨fun hkind => ?_, fun i c a hkind hstate ht hc ha => ?_⟩
  · rwa [startJob_of_not_composing hq hkind, opening_eq htarget hlength] at hexec
  · rw [startJob_of_composing hq hkind hstate ht hc ha] at hexec
    exact ⟨_, usageWrite_usageWriteBytes .., hexec⟩

end Sys2Proof.Laws
end

section
set_option Elab.async false
/-! PROOFS. The end of a job (R50, R51) for a job that has its place in the queue: what leaves the queue, what its result does by the job's kind,
and what a failed attempt leaves. -/

namespace Sys2Proof.Laws

open Sys2Proof.Machine Sys2Proof.Safety

section
variable {s t : State} {pre post : List Job} {j0 j : Job} {i : Station} {condition : BusCondition}

/-- The next state named otherwise. -/
theorem goesTo_of_eq {o : Host.Outcome State Fault Refusal} {u : State} (h : goesTo o t) (he : t = u) : goesTo o u := he ▸ h

/-! ## The job on the bus -/

theorem onTransaction_of_running (hr : running s .own pre j post) (f : State → Job → State) : s.onTransaction f = f s j := by
  simp only [State.onTransaction, activeJob_of_running hr, hr.2.2.2.1, if_true]

/-- A bus that has been freed keeps its jobs (R52). -/
theorem queued_freeBus (hq : queued s pre j post) : queued s.freeBus pre j post := hq

/-- The job's leaving the queue (R41). -/
theorem removed_of_queued (hq : queued t pre j0 post) (hhandle : j.handle = j0.handle) :
    t.withBus (t.bus.removeJob j.handle) = t.withBus { t.bus with jobs := pre ++ post } := by
  rw [hhandle, removeJob_of_queued hq]

/-! ## Attempts (R50) -/

/-- A failed attempt with attempts left: the job waits in RETRY (R50). -/
theorem failedAttempt_of_left (hq : queued t pre j0 post) (hhandle : j.handle = j0.handle) (hcut : j.cut = none) (hleft : 1 < j.attempts)
    (f : AttemptFailure) :
    t.failedAttempt j f = t.withBus { t.bus with jobs := pre ++ inRetry j f.last t.part.pollSpacing :: post } := by
  have hspent : (j.spend f).attempts ≠ 0 := Nat.sub_ne_zero_of_lt hleft
  rw [State.failedAttempt, hcut]
  simp only [if_neg hspent, hhandle, updateJob_of_queued hq]
  rfl

/-- A failed last attempt ends the job (R50). -/
theorem failedAttempt_of_last (hcut : j.cut = none) (hlast : j.attempts = 1) (f : AttemptFailure) :
    t.failedAttempt j f = t.endJob (j.spend f) f.result [] := by
  have hspent : (j.spend f).attempts = 0 := by rw [Job.spend, hlast]
  rw [State.failedAttempt, hcut]
  simp only [if_pos hspent]

theorem finishJob_of_uncut (hcut : j.cut = none) (result : JobResult) (data : List Byte) : t.finishJob j result data = t.endJob j result data := by
  rw [State.finishJob, hcut]

/-! ## The end of a job without a follow-on -/

/-- No READ_ID waits for the station's AUTH job to end (R44). -/
theorem queueDueJob_of_not_due (h : ∀ x, t.context i = some x → x.firstJobDue = false) : t.queueDueJob i = t := by
  unfold State.queueDueJob
  split
  next x hx => rw [h x hx, Bool.false_and, if_neg Bool.false_ne_true]
  next => rfl

/-- What follows the end of an AUTH job of a station, by the operating state (R44, R67). -/
theorem afterAuthJob_of_auth (ht : j.target = some i) (hcls : j.cls = .auth) :
    t.afterAuthJob j = if t.operating = .operating then t.queueDueJob i else t := by
  rw [State.afterAuthJob, ht, hcls]
  cases t.operating <;> simp

theorem afterAuthJob_of_other (h : j.target = none ∨ j.cls ≠ .auth) : t.afterAuthJob j = t := by
  unfold State.afterAuthJob
  split
  next ht hcls _ => exact absurd h (by simp [ht, hcls])
  next => rfl

theorem afterAuthJob_of_halted (h : t.operating = .halted) : t.afterAuthJob j = t := by
  unfold State.afterAuthJob
  split
  next hop => exact absurd (h.symm.trans hop) (by decide)
  next => rfl

theorem followOn_of_none (h : j.followOn = none) (result : JobResult) : t.followOn j result = t := by
  unfold State.followOn
  split
  next hf => exact absurd (h.symm.trans hf) (by simp)
  next => rfl

theorem followOn_of_dropped {result : JobResult} (h : result.keepsFollowOn = false) : t.followOn j result = t := by
  unfold State.followOn
  split
  · rw [h, if_neg Bool.false_ne_true]
  · rfl

/-- A job of no station ends without a result (R47, R51). -/
theorem endJob_of_no_target (hq : queued t pre j0 post) (hhandle : j.handle = j0.handle) (ht : j.target = none) (result : JobResult)
    (data : List Byte) : t.endJob j result data = t.withBus { t.bus with jobs := pre ++ post } := by
  have hfollow (u : State) : u.followOn j result = u := by rw [State.followOn, ht]
  rw [State.endJob, hfollow, afterAuthJob_of_other (.inl ht), State.retireJob, removed_of_queued hq hhandle, State.deliver, ht]

/-- An AUTH job that the authentication engine still waits for: its result reaches the context (R65). -/
theorem endJob_of_auth (hq : queued t pre j0 post) (hhandle : j.handle = j0.handle) (ht : j.target = some i) (hcls : j.cls = .auth)
    (hfollow : j.followOn = none) (hdisowned : j.disowned = false) (hkind : j.kind = .readId ∨ j.kind = .challenge ∨ j.kind = .response)
    {result : JobResult} {data : List Byte} {u : State} (hu : (t.withBus { t.bus with jobs := pre ++ post }).authResult i result data = u)
    (hdue : ∀ x, u.context i = some x → x.firstJobDue = false) : t.endJob j result data = u := by
  have hdelivered : t.retireJob j result data = u := by
    rw [State.retireJob, removed_of_queued hq hhandle, State.deliver, ht]
    rcases hkind with h | h | h <;> simp only [h, hdisowned, Bool.false_eq_true, if_false] <;> exact hu
  rw [State.endJob, hdelivered, followOn_of_none hfollow, afterAuthJob_of_auth ht hcls, queueDueJob_of_not_due hdue, ite_self]

/-- An abandoned AUTH job's result is discarded, and a context that waited for its end goes on (R44). -/
theorem endJob_of_abandoned {h : Nat} (hq : queued t pre j0 post) (hhandle : j.handle = j0.handle) (ht : j.target = some i)
    (hcls : j.cls = .auth) (hfollow : j.followOn = none) (hdisowned : j.disowned = true)
    (hkind : j.kind = .readId ∨ j.kind = .challenge ∨ j.kind = .response) (hop : t.operating = .operating)
    (hf : nextFree (t.withBus { t.bus with jobs := pre ++ post }) h) (result : JobResult) (data : List Byte) :
    t.endJob j result data = dueJobQueued (t.withBus { t.bus with jobs := pre ++ post }) i h := by
  have hdelivered : t.retireJob j result data = t.withBus { t.bus with jobs := pre ++ post } := by
    rw [State.retireJob, removed_of_queued hq hhandle, State.deliver, ht]
    rcases hkind with h | h | h <;> simp only [h, hdisowned, if_true]
  rw [State.endJob, hdelivered, followOn_of_none hfollow, afterAuthJob_of_auth ht hcls, State.withBus_operating,
    if_pos hop, queueDueJob_eq hf]

/-! ## The end of a job that is cut (R46, R51) -/

theorem authResult_of_cut (t : State) (i : Station) (r : CutReason) (data : List Byte) : t.authResult i r.result data = t := by
  unfold State.authResult
  split
  · rfl
  · split <;> cases r <;> rfl

theorem writeBackResult_of_cut (t : State) (i : Station) (j : Job) (r : CutReason) : t.writeBackResult i j r.result = t := by
  unfold State.writeBackResult
  split
  · rfl
  · cases r <;> rfl

/-- A cut leaves no result but a host job's in OPERATING (R56, R61). -/
theorem retireJob_of_cut (hq : queued t pre j post) (h : (j.kind ≠ .hostRead ∧ j.kind ≠ .hostWrite) ∨ t.operating = .halted)
    (r : CutReason) (data : List Byte) : t.retireJob j r.result data = t.withBus { t.bus with jobs := pre ++ post } := by
  rw [State.retireJob, removed_of_queued hq rfl, State.deliver]
  have hhost : j.kind = .hostRead ∨ j.kind = .hostWrite → t.operating = .halted := fun hk => h.resolve_left fun ⟨h1, h2⟩ => hk.elim h1 h2
  split
  · rfl
  · split
    · rfl
    · split
      · rfl
      · exact authResult_of_cut ..
    · split
      · rfl
      · exact authResult_of_cut ..
    · split
      · rfl
      · exact authResult_of_cut ..
    · exact writeBackResult_of_cut ..
    next hk => simp only [State.hostResult, State.withBus_operating, hhost (.inl hk)]
    next hk => simp only [State.hostResult, State.withBus_operating, hhost (.inr hk)]

theorem endJob_of_cut (hq : queued t pre j post) (h : (j.kind ≠ .hostRead ∧ j.kind ≠ .hostWrite) ∨ t.operating = .halted)
    (r : CutReason) (data : List Byte) :
    t.endJob j r.result data = (t.withBus { t.bus with jobs := pre ++ post }).afterAuthJob j := by
  rw [State.endJob, retireJob_of_cut hq h, followOn_of_dropped (by cases r <;> rfl)]

/-! ## Contexts after an attempt -/

theorem setContext_context (t : State) (i : Station) (x : Option AuthContext) : (t.setContext i x).context i = x :=
  Vector.getElem_set_self i.isLt

theorem withoutContext_context (t : State) (i : Station) : (withoutContext t i).context i = none := by
  unfold withoutContext
  split
  next h => exact h
  next => exact Vector.getElem_set_self i.isLt

/-- A quarantined station has no context (R8). -/
theorem toQuarantine_context (t : State) (i : Station) (c : CartridgeRecord) (cause : QuarantineCause) (code : Nat) :
    (toQuarantine t i c cause code).context i = none := withoutContext_context _ i

theorem attemptBegun_not_due {x : AuthContext} (hx : x.firstJobDue = false) (t : State) (h : Nat) :
    ∀ y, (attemptBegun t i x h).context i = some y → y.firstJobDue = false := fun y hy => by
  have hcontext : (attemptBegun t i x h).context i = some { x with step := .challenge, challenge := some (Config.randomDraw t.draws) } :=
    setContext_context t i _
  obtain rfl := Option.some.inj (hcontext.symm.trans hy)
  exact hx

theorem unanswered_not_due {x : AuthContext} (hx : x.firstJobDue = false) (t : State) (c : CartridgeRecord) (h : Nat) :
    ∀ y, (unanswered t i x c h).context i = some y → y.firstJobDue = false := by
  unfold unanswered
  split
  · exact attemptBegun_not_due (x := { x with attempt := 2, lastEnding := some .noAnswer }) hx t h
  · exact fun y hy => absurd (hy.symm.trans (toQuarantine_context ..)) (by simp)

/-! ## Results at a context (R65, R66) -/

section
variable {x : AuthContext} {h : Nat}

/-- The end of a CHALLENGE: the context goes on to RESPONSE with that job queued (R65). -/
theorem authResult_of_challenge_done (hx : t.context i = some x) (hstep : x.step = .challenge) (hf : nextFree t h) (data : List Byte) :
    t.authResult i .done data = (t.setContext i (some { x with step := .response })).withBus { t.bus with
      jobs := t.bus.jobs ++ [freshJob h (some i) .response .auth none], lastHandle := h } := by
  have hf' : nextFree (t.setContext i (some { x with step := .response })) h := hf
  simp only [State.authResult, hx, hstep, State.challengeResult, enqueue_eq hf']
  rfl

/-- A CHALLENGE or RESPONSE whose attempts are spent is no answer (R65, R66). -/
theorem authResult_of_failure {c : CartridgeRecord} (hx : t.context i = some x) (hstep : x.step = .challenge ∨ x.step = .response)
    (hc : (t.station i).cartridge = some c) (hf : nextFree t h) (f : AttemptFailure) (data : List Byte) :
    t.authResult i f.result data = unanswered t i x c h := by
  have hending : t.authResult i f.result data = t.endAttempt i x .noAnswer := by
    simp only [State.authResult, hx]
    rcases hstep with hs | hs <;> simp only [hs, State.challengeResult, State.responseResult] <;> cases f <;> rfl
  rw [hending, endAttempt_noAnswer_eq x hc hf]

end

end
end Sys2Proof.Laws
end

section
set_option Elab.async false
/-! PROOFS. JOB_TRANSACTION_END, JOB_CUT_AT_BYTE_BOUNDARY, RESPONSE_POLL and the jobs' timers (O46). -/

namespace Sys2Proof.Laws

open Sys2Proof.Machine Sys2Proof.Safety

section
variable {s : State} {pre post : List Job} {j : Job} {i : Station} {x : AuthContext} {c : CartridgeRecord} {h : Nat} {data : List Byte}

/-- The state after the bus has been freed and the queue has changed. -/
theorem freed_withBus (s : State) (jobs : List Job) :
    s.freeBus.withBus { s.freeBus.bus with jobs } = s.withBus (released s.bus jobs) := rfl

/-! ## Last attempts (R50) -/

section
variable {j0 : Job} (hq : queued s pre j0 post) (hhandle : j.handle = j0.handle) (hcut : j.cut = none) (hlast : j.attempts = 1)
  (ht : j.target = some i) (hfollow : j.followOn = none)
include hq hhandle hcut hlast ht hfollow

/-- A host job whose last attempt fails (R50, R56). -/
theorem failedAttempt_of_host (hop : s.operating = .operating) (hcls : j.cls = .host)
    (hkind : j.kind = .hostRead ∨ j.kind = .hostWrite) (f : AttemptFailure) :
    s.failedAttempt j f = hostFinished (s.withBus { s.bus with jobs := pre ++ post }) i j f.result f.last [] := by
  rw [failedAttempt_of_last hcut hlast, endJob_of_host (j := j.spend f) hop hq hhandle hkind ht hfollow hcls, ite_self]
  rfl

/-- The last failed attempt of a CHALLENGE or a RESPONSE that its context waits for (R50, R65, R66). -/
theorem failedAttempt_of_unanswered (hcls : j.cls = .auth) (hdisowned : j.disowned = false) (hkind : j.kind = .challenge ∨ j.kind = .response)
    (hx : s.context i = some x) (hstep : x.step = .challenge ∨ x.step = .response) (hdue : x.firstJobDue = false)
    (hc : (s.station i).cartridge = some c) (hf : nextFree (s.withBus { s.bus with jobs := pre ++ post }) h)
    (f : AttemptFailure) : s.failedAttempt j f = unanswered (s.withBus { s.bus with jobs := pre ++ post }) i x c h := by
  rw [failedAttempt_of_last hcut hlast]
  exact endJob_of_auth (j := j.spend f) hq hhandle ht hcls hfollow hdisowned (.inr hkind)
    (authResult_of_failure (t := s.withBus { s.bus with jobs := pre ++ post }) hx hstep hc hf f []) (unanswered_not_due hdue _ c h)

theorem failedAttempt_of_abandoned (hcls : j.cls = .auth) (hdisowned : j.disowned = true) (hkind : j.kind = .readId ∨ j.kind = .challenge ∨ j.kind = .response)
    (hop : s.operating = .operating) (hf : nextFree (s.withBus { s.bus with jobs := pre ++ post }) h)
    (f : AttemptFailure) : s.failedAttempt j f = dueJobQueued (s.withBus { s.bus with jobs := pre ++ post }) i h := by
  rw [failedAttempt_of_last hcut hlast]
  exact endJob_of_abandoned (j := j.spend f) hq hhandle ht hcls hfollow hdisowned hkind hop hf f.result []

end

/-! ## The transaction of a job that runs ends (R46, R47) -/

/-- JOB_TRANSACTION_END acts on the ACTIVE job (R47). -/
theorem exec_jobTransactionEnd (hs : up s) (hr : running s .own pre j post) (how : TransferEnd) :
    goesTo (exec (.jobTransactionEnd how) s) (s.endTransaction j how) := by
  have hexec : goesTo (exec (.jobTransactionEnd how) s) (s.onTransaction (fun s j => s.endTransaction j how)) :=
    congrArg Host.Outcome.next (whenRunning_of_up hs _)
  rwa [onTransaction_of_running hr] at hexec

/-- A transaction that brings the bytes of its kind ends the job DONE (R47). -/
theorem endTransaction_of_done (hcut : j.cut = none) (hkind : j.kind = .readId ∨ j.kind = .challenge ∨ j.kind = .hostRead)
    (hlength : data.length = j.readLength) : s.endTransaction j (.done data) = s.freeBus.endJob j .done data := by
  unfold State.endTransaction
  rcases hkind with h | h | h <;> simp only [h, if_pos hlength, finishJob_of_uncut hcut]

theorem endTransaction_of_nack (hkind : j.kind = .readId ∨ j.kind = .challenge ∨ j.kind = .hostRead) :
    s.endTransaction j .nack = s.freeBus.failedAttempt j .nack := by
  unfold State.endTransaction
  rcases hkind with h | h | h <;> simp only [h]

section
variable (hq : queued s pre j post) (hcut : j.cut = none)
include hq hcut

theorem endTransaction_of_wake (hkind : j.kind = .wake) (ht : j.target = none) (how : TransferEnd) :
    s.endTransaction j how = s.withBus (released s.bus (pre ++ post)) := by
  have hend : s.endTransaction j how = s.freeBus.endJob j .done [] := by
    simp only [State.endTransaction, hkind, finishJob_of_uncut hcut]
  rw [hend, endJob_of_no_target (queued_freeBus hq) rfl ht, freed_withBus]

theorem endTransaction_of_left (hkind : j.kind = .readId ∨ j.kind = .challenge ∨ j.kind = .hostRead) (hleft : 1 < j.attempts) :
    s.endTransaction j .nack = s.withBus (released s.bus (pre ++ inRetry j .nack s.part.pollSpacing :: post)) := by
  rw [endTransaction_of_nack hkind, failedAttempt_of_left (queued_freeBus hq) rfl hcut hleft]
  rfl

section
variable (hop : s.operating = .operating) (ht : j.target = some i) (hcls : j.cls = .host) (hfollow : j.followOn = none)
include hop ht hcls hfollow

theorem endTransaction_of_hostRead (hkind : j.kind = .hostRead) (hlength : data.length = j.length) :
    s.endTransaction j (.done data) = hostFinished (s.withBus (released s.bus (pre ++ post))) i j .done j.lastFailure data := by
  rw [endTransaction_of_done hcut (.inr (.inr hkind)) (by rw [hlength, Job.readLength, hkind]),
    endJob_of_host (s := s.freeBus) hop (queued_freeBus hq) rfl (.inl hkind) ht hfollow hcls, if_pos ⟨hkind, rfl⟩, freed_withBus]

end

section
variable (ht : j.target = some i) (hcls : j.cls = .auth) (hfollow : j.followOn = none)
include ht hcls hfollow

theorem endTransaction_of_challenge (hdisowned : j.disowned = false) (hkind : j.kind = .challenge) (hx : s.context i = some x)
    (hstep : x.step = .challenge) (hdue : x.firstJobDue = false) (hf : nextFree (s.withBus (released s.bus (pre ++ post))) h) :
    let ended := s.withBus (released s.bus (pre ++ post))
    s.endTransaction j (.done []) = (ended.setContext i (some { x with step := .response })).withBus { ended.bus with
      jobs := pre ++ post ++ [freshJob h (some i) .response .auth none], lastHandle := h } := by
  intro ended
  rw [endTransaction_of_done hcut (.inr (.inl hkind)) (by rw [Job.readLength, hkind]; rfl)]
  refine endJob_of_auth (queued_freeBus hq) rfl ht hcls hfollow hdisowned (.inr (.inl hkind))
    (authResult_of_challenge_done (t := ended) hx hstep hf []) fun y hy => ?_
  obtain rfl := Option.some.inj ((setContext_context ended i (some { x with step := .response })).symm.trans hy)
  exact hdue

theorem endTransaction_of_abandoned (hdisowned : j.disowned = true) (hkind : j.kind = .readId ∨ j.kind = .challenge)
    (hop : s.operating = .operating) (hf : nextFree (s.withBus (released s.bus (pre ++ post))) h)
    (hlength : data.length = if j.kind = .readId then 36 else 0) :
    s.endTransaction j (.done data) = dueJobQueued (s.withBus (released s.bus (pre ++ post))) i h := by
  rw [endTransaction_of_done hcut (hkind.imp_right .inl) (by rcases hkind with h | h <;> simpa [Job.readLength, h] using hlength)]
  exact endJob_of_abandoned (t := s.freeBus) (queued_freeBus hq) rfl ht hcls hfollow hdisowned (hkind.imp_right .inl) hop hf .done data

end

end

/-! ## Cuts (R46, R51) -/

theorem exec_jobCutAtByteBoundary (hs : up s) (hactive : s.bus.activeJob = some j) (hown : s.bus.condition = .own) :
    goesTo (exec .jobCutAtByteBoundary s) (s.cutJob j) := by
  have hexec : goesTo (exec .jobCutAtByteBoundary s) (s.onTransaction State.cutJob) := congrArg Host.Outcome.next (whenRunning_of_up hs _)
  rwa [State.onTransaction, hactive, hown] at hexec

theorem activeJob_of_queued (hq : queued s pre j post) (hactive : j.state = .active) (hother : ∀ k ∈ pre ++ post, k.state ≠ .active) :
    s.bus.activeJob = some j :=
  List.find?_eq_some_iff_append.mpr ⟨by simp [hactive], pre, post, hq.1, fun k hk => by simpa using hother k (List.mem_append_left post hk)⟩

theorem cutJob_of_cut {r : CutReason} (hcut : j.cut = some r) : s.cutJob j = s.freeBus.endJob j r.result [] := by rw [State.cutJob, hcut]

theorem cutResult_eq (r : CutReason) : r.result = match r with | .removal => .removed | .abort => .aborted | .shutdown => .aborted := by
  cases r <;> rfl

/-! ## Polls (R48) -/

theorem exec_responsePoll (hs : up s) (hr : running s .own pre j post) (hkind : j.kind = .response) :
    goesTo (exec .responsePoll s) (s.pollResponse j) := by
  have hexec : goesTo (exec .responsePoll s) (s.onTransaction (fun s j => if j.kind = .response then s.pollResponse j else s)) :=
    congrArg Host.Outcome.next (whenRunning_of_up hs _)
  rwa [onTransaction_of_running hr, if_pos hkind] at hexec

theorem pollResponse_of_room (hq : queued s pre j post) (hcut : j.cut = none) (hroom : j.polls + 1 < 8) : s.pollResponse j =
    s.withBus (released s.bus (pre ++ { j with polls := j.polls + 1, state := .polling, timer := some s.part.pollSpacing } :: post)) := by
  rw [State.pollResponse]
  dsimp only
  rw [if_pos ⟨hroom, hcut⟩, updateJob_of_queued (queued_freeBus hq)]
  rfl

theorem pollResponse_of_spent (hpolls : j.polls = 7) : s.pollResponse j = s.freeBus.failedAttempt { j with polls := 8 } .timeout := by
  have hspent : ¬ (7 + 1 < 8) := by decide
  rw [State.pollResponse, hpolls]
  exact if_neg fun hlt => hspent hlt.1

/-! ## Timers (R48, R50) -/

theorem stopJobTimer_of_queued (hq : queued s pre j post) (state : JobState) : s.stopJobTimer j.handle state =
    if j.state = state then s.withBus { s.bus with jobs := pre ++ { j with timer := none } :: post } else s := by
  rw [State.stopJobTimer, updateJob_of_queued hq]
  split
  · rfl
  · rw [← hq.1]
    rfl

end

/-- Settles O46, row by row. -/
theorem transactionsAndPollsMoveTheJob : Obligations.TransactionsAndPollsMoveTheJob := by
  intro s pre post j h hs ended retry host auth awaits
  refine ⟨fun hr => ?_, fun r hq hactive hother hown hcut => ?_, fun hr hkind => ?_, fun hq => ?_⟩
  · have hexec := exec_jobTransactionEnd hs hr
    have hcutexec := exec_jobCutAtByteBoundary hs (activeJob_of_running hr) hr.2.2.2.1
    obtain ⟨hq, -, hcut, -⟩ := hr
    have hfreed := queued_freeBus hq
    refine ⟨fun how hkind ht => goesTo_of_eq (hexec how) (endTransaction_of_wake hq hcut hkind ht how),
      fun i data hkind ⟨ht, hcls, hfollow, hop⟩ hlength =>
        goesTo_of_eq (hexec _) (endTransaction_of_hostRead hq hcut hop ht hcls hfollow hkind hlength),
      fun i x hkind ⟨ht, hcls, hfollow, hdisowned⟩ ⟨hx, hstep, hdue⟩ hf =>
        goesTo_of_eq (hexec _) (endTransaction_of_challenge hq hcut ht hcls hfollow hdisowned hkind hx hstep hdue hf),
      fun hkind hleft => goesTo_of_eq (hexec _) (endTransaction_of_left hq hcut hkind hleft),
      fun i hkind ⟨ht, hcls, hfollow, hop⟩ hlast => ?_, fun i x c hkind ⟨ht, hcls, hfollow, hdisowned⟩ ⟨hx, hstep, hdue⟩ hc hlast hf => ?_,
      fun i data hkind ⟨ht, hcls, hfollow, hdisowned⟩ hop hf => ⟨fun hlength => goesTo_of_eq (hexec _)
        (endTransaction_of_abandoned hq hcut ht hcls hfollow hdisowned hkind hop hf hlength), fun hlast => ?_⟩, ?_⟩
    · exact goesTo_of_eq (hexec _) ((endTransaction_of_nack (.inr (.inr hkind))).trans
        (failedAttempt_of_host (s := s.freeBus) hfreed rfl hcut hlast ht hfollow hop hcls (.inl hkind) .nack))
    · exact goesTo_of_eq (hexec _) ((endTransaction_of_nack (.inr (.inl hkind))).trans
        (failedAttempt_of_unanswered (s := s.freeBus) hfreed rfl hcut hlast ht hfollow hcls hdisowned (.inl hkind) hx (.inl hstep) hdue hc hf .nack))
    · exact goesTo_of_eq (hexec _) ((endTransaction_of_nack (hkind.imp_right .inl)).trans
        (failedAttempt_of_abandoned (s := s.freeBus) hfreed rfl hcut hlast ht hfollow hcls hdisowned (hkind.imp_right .inl) hop hf .nack))
    · exact goesTo_of_eq hcutexec (by rw [State.cutJob, hcut])
  · have hexec := exec_jobCutAtByteBoundary hs (activeJob_of_queued hq hactive hother) hown
    rw [cutJob_of_cut hcut] at hexec
    have hfreed := queued_freeBus hq
    refine ⟨fun i hkind ⟨ht, hcls, hfollow, hop⟩ => ?_, fun hhalted => ?_, fun hread hwrite => ⟨fun hno => ?_, fun i ht hcls hop hf => ?_⟩⟩
    · have hend := endJob_of_host (s := s.freeBus) hop hfreed rfl hkind ht hfollow hcls r.result []
      rw [ite_self, cutResult_eq] at hend
      exact goesTo_of_eq hexec hend
    · exact goesTo_of_eq hexec ((endJob_of_cut (t := s.freeBus) hfreed (.inr hhalted) r []).trans (afterAuthJob_of_halted (t := ended) hhalted))
    · exact goesTo_of_eq hexec ((endJob_of_cut (t := s.freeBus) hfreed (.inl ⟨hread, hwrite⟩) r []).trans (afterAuthJob_of_other hno))
    · refine goesTo_of_eq hexec ((endJob_of_cut (t := s.freeBus) hfreed (.inl ⟨hread, hwrite⟩) r []).trans ?_)
      exact (afterAuthJob_of_auth ht hcls).trans ((if_pos hop).trans (queueDueJob_eq (s := ended) hf))
  · have hexec := exec_responsePoll hs hr hkind
    obtain ⟨hq, -, hcut, -⟩ := hr
    have hfreed : queued s.freeBus pre j post := queued_freeBus hq
    refine ⟨fun hroom => goesTo_of_eq hexec (pollResponse_of_room hq hcut hroom), fun hpolls hleft => ?_,
      fun hpolls hlast hf i => ⟨fun x c ⟨ht, hcls, hfollow, hdisowned⟩ ⟨hx, hstep, hdue⟩ hc => ?_, fun ⟨ht, hcls, hfollow, hdisowned⟩ hop => ?_⟩⟩
    · exact goesTo_of_eq hexec ((pollResponse_of_spent hpolls).trans (failedAttempt_of_left (t := s.freeBus) (j := { j with polls := 8 }) hfreed rfl hcut hleft .timeout))
    · exact goesTo_of_eq hexec ((pollResponse_of_spent hpolls).trans (failedAttempt_of_unanswered (s := s.freeBus) (j := { j with polls := 8 })
        hfreed rfl hcut hlast ht hfollow hcls hdisowned (.inr hkind) hx (.inr hstep) hdue hc hf .timeout))
    · exact goesTo_of_eq hexec ((pollResponse_of_spent hpolls).trans (failedAttempt_of_abandoned (s := s.freeBus) (j := { j with polls := 8 })
        hfreed rfl hcut hlast ht hfollow hcls hdisowned (.inr (.inr hkind)) hop hf .timeout))
  · have hpoll : goesTo (exec (.pollTimerExpiry j.handle) s) (s.stopJobTimer j.handle .polling) :=
      congrArg Host.Outcome.next (whenRunning_of_up hs _)
    have hretry : goesTo (exec (.retryTimerExpiry j.handle) s) (s.stopJobTimer j.handle .retry) :=
      congrArg Host.Outcome.next (whenRunning_of_up hs _)
    rw [stopJobTimer_of_queued hq] at hpoll hretry
    exact ⟨fun h => goesTo_of_eq hpoll (if_pos h), fun h => goesTo_of_eq hpoll (if_neg h), fun h => goesTo_of_eq hretry (if_pos h),
      fun h => goesTo_of_eq hretry (if_neg h)⟩

end Sys2Proof.Laws
end

section
set_option Elab.async false
/-! PROOFS. The end of a write-back (R20, R139, R140) and the two phases of a write job (O47). -/

namespace Sys2Proof.Laws

open Sys2Proof.Machine Sys2Proof.Safety

/-! ## The end of a write-back -/

section
variable {s t : State} {pre post : List Job} {j0 j : Job} {i : Station}

/-- The refill policy quarantines ACTIVE stations only (R154). -/
theorem recordEvidence_lifecycle (h : (t.station i).lifecycle ≠ .active) (k : EvidenceKind) :
    ((t.recordEvidence i k).station i).lifecycle = (t.station i).lifecycle := by
  cases hc : (t.station i).cartridge with
  | none => rw [State.recordEvidence, hc]
  | some c =>
    by_cases hauth : c.authenticated = true
    · rw [recordEvidence_of_authenticated hc hauth, if_neg fun hp => h hp.2.2, (evidenceReported_frame t i c k).1]
    · rw [recordEvidence_of_provisional hc (Bool.eq_false_iff.mpr hauth), raise_station, State.setStation_station_same]

/-- The completion of a departure (R20). -/
theorem completeDeparture_eq (hl : (t.station i).lifecycle = .departing) (failure : Option JobResult) :
    t.completeDeparture i failure = match failure with
      | some r => (departureDone t i).raise .writebackFailed (some i) (resultCode r)
      | none => departureDone t i := by
  have hdone : (t.enterDeparted i).modStation i (fun r => { r with lifecycle := .released }) = departureDone t i := by
    rw [departureDone, State.modStation, enterDeparted_eq, enteredAsDeparted_station]
  rw [State.completeDeparture, if_pos hl]
  cases failure <;> simp only [hdone]

/-- The follow-on of a write-back that has ended with a result (R43). -/
theorem followOn_eq (ht : j.target = some i) {result : JobResult} (hkeeps : result.keepsFollowOn = true) (t : State) :
    t.followOn j result = followedOn t i j := by
  rw [State.followOn, followedOn, ht]
  cases j.followOn with
  | none => rfl
  | some cls => exact if_pos hkeeps

section
variable (hq : queued t pre j0 post) (hhandle : j.handle = j0.handle) (ht : j.target = some i) (hkind : j.kind = .writeUsage)
  (hcls : j.cls = .writeBack ∨ (j.cls = .depart ∧ (t.station i).lifecycle = .departing))
include hq hhandle ht hkind hcls

theorem endJob_of_writeUsage {result : JobResult} (hkeeps : result.keepsFollowOn = true) (data : List Byte) :
    t.endJob j result data = followedOn ((t.withBus { t.bus with jobs := pre ++ post }).writeBackResult i j result) i j := by
  have hauth : j.cls ≠ .auth := by rcases hcls with h | ⟨h, -⟩ <;> rw [h] <;> decide
  have hdelivered : t.retireJob j result data = (t.withBus { t.bus with jobs := pre ++ post }).writeBackResult i j result := by
    rw [State.retireJob, removed_of_queued hq hhandle, State.deliver, ht]
    simp only [hkind]
  rw [State.endJob, hdelivered, followOn_eq ht hkeeps, afterAuthJob_of_other (.inr hauth)]

/-- A write-back that ends otherwise than DONE (R20, R140). -/
theorem endJob_of_failed_writeUsage {result : JobResult} (hresult : result = .nack ∨ result = .refused ∨ result = .busFault) (data : List Byte) :
    t.endJob j result data = writeBackEnded (t.withBus { t.bus with jobs := pre ++ post }) i j result (resultCode result) := by
  have hfailed : ∀ u : State, (j.cls = .depart → (u.station i).lifecycle = .departing) → u.writeBackFailed i j.cls result =
      let v := if result = .refused then u.recordEvidence i .conflict else u
      if j.cls = .depart then (departureDone v i).raise .writebackFailed (some i) (resultCode result)
      else if result = .refused then v else v.raise .writebackFailed (some i) (resultCode result) := fun u hu => by
    have hv : j.cls = .depart →
        ((if result = .refused then u.recordEvidence i .conflict else u).station i).lifecycle = .departing := fun hdepart => by
      have hl := hu hdepart
      split
      · exact (recordEvidence_lifecycle (by rw [hl]; decide) _).trans hl
      · exact hl
    by_cases hdepart : j.cls = .depart
    · rw [State.writeBackFailed, if_pos hdepart]
      exact (completeDeparture_eq (hv hdepart) (some result)).trans (if_pos hdepart).symm
    · rw [State.writeBackFailed, if_neg hdepart]
      exact (if_neg hdepart).symm
  have hkeeps : result.keepsFollowOn = true := by rcases hresult with rfl | rfl | rfl <;> rfl
  have htaken (u : State) : u.writeBackResult i j result = if j.disowned then u else u.writeBackFailed i j.cls result := by
    rcases hresult with rfl | rfl | rfl <;> rfl
  have hdepart : j.cls = .depart → ((t.withBus { t.bus with jobs := pre ++ post }).station i).lifecycle = .departing := fun hd =>
    hcls.elim (fun h => absurd (h.symm.trans hd) (by decide)) (·.2)
  rw [endJob_of_writeUsage hq hhandle ht hkind hcls hkeeps, htaken, hfailed _ hdepart]
  rfl

/-- A DONE write-back: its figure becomes last_written, which is checkpointed, and class DEPART completes the departure (R20, R139). -/
theorem endJob_of_done_writeUsage {c : CartridgeRecord} {used : Nat} {flags : TagFlags} (hdisowned : j.disowned = false)
    (hwritten : j.written = some (used, flags)) (hc : (t.station i).cartridge = some c) (data : List Byte) :
    let noted := (t.withBus { t.bus with jobs := pre ++ post }).setStation i { t.station i with cartridge := some (c.written used) }
    let kept := checkpointed noted i (c.written used)
    t.endJob j .done data = followedOn (if j.cls = .depart then departureDone kept i else kept) i j := by
  intro noted kept
  have hkept : ((t.withBus { t.bus with jobs := pre ++ post }).recordWritten i j).writeCheckpoint i = kept := by
    rw [State.recordWritten, hwritten]
    dsimp only
    rw [modCartridge_eq (s := t.withBus { t.bus with jobs := pre ++ post }) hc]
    exact writeCheckpoint_eq (s := noted) (by rw [State.setStation_station_same])
  rw [endJob_of_writeUsage hq hhandle ht hkind hcls rfl, State.writeBackResult, hdisowned, if_neg Bool.false_ne_true]
  dsimp only
  rw [hkept]
  split_ifs with hdepart
  · have hl : (kept.station i).lifecycle = .departing := by
      rw [(checkpointed_frame noted i _).1, State.setStation_station_same]
      exact hcls.elim (fun h => absurd (h.symm.trans hdepart) (by decide)) (·.2)
    rw [completeDeparture_eq hl]
  · rfl

end

/-! ## The phases of a write job (R49) -/

section
variable {condition : BusCondition}

theorem onStatus_of_open (hr : running s condition pre j post) (hkind : j.kind = .writeUsage ∨ j.kind = .hostWrite)
    (hopen : (j.phase = .status ∧ condition = .own) ∨ (j.phase = .between ∧ condition = .free)) (f : State → Job → State) :
    s.onStatus f = f s j := by
  have hwrites : j.writes = true := by rcases hkind with h | h <;> simp [Job.writes, h]
  have hstatus : s.bus.statusOpen j = true := by
    rcases hopen with ⟨hp, hc⟩ | ⟨hp, hc⟩ <;> simp [Bus.statusOpen, hp, hr.2.2.2.1, hc]
  simp only [State.onStatus, activeJob_of_running hr, hwrites, hstatus, Bool.and_self, if_true]

theorem pollStatus_of_room (hq : queued s pre j post) (hcut : j.cut = none) (hroom : j.polls + 1 < 8) : s.pollStatus j =
    s.withBus (released s.bus (pre ++ { j with polls := j.polls + 1, phase := .statusWait, timer := some s.part.pollSpacing } :: post)) := by
  rw [State.pollStatus]
  dsimp only
  rw [if_pos ⟨hroom, hcut⟩, updateJob_of_queued (queued_freeBus hq)]
  rfl

theorem pollStatus_of_spent (hpolls : j.polls = 7) : s.pollStatus j = s.freeBus.failedAttempt { j with polls := 8 } .nack := by
  have hspent : ¬ (7 + 1 < 8) := by decide
  rw [State.pollStatus, hpolls]
  exact if_neg fun hlt => hspent hlt.1

theorem endWritePhase_of_acknowledged (hq : queued s pre j post) (hcut : j.cut = none) :
    s.endWritePhase j true = s.withBus (released s.bus (pre ++ { j with phase := .between } :: post)) := by
  rw [State.endWritePhase, if_pos ⟨rfl, hcut⟩, updateJob_of_queued (queued_freeBus hq)]
  rfl

theorem takeStatus_of_failure {status : Byte} (h : 2 ≤ status.toNat ∨ (status = 1 ∧ j.kind = .hostWrite)) :
    s.takeStatus status j = s.freeBus.failedAttempt j .nack := by
  have h0 : status ≠ 0 := by
    rintro rfl
    rcases h with h | ⟨h, -⟩
    · exact absurd h (by decide)
    · exact absurd h (by decide)
  have h1 : ¬ (status = 1 ∧ j.kind = .writeUsage) := by
    rintro ⟨rfl, hkind⟩
    rcases h with h | ⟨-, h⟩
    · exact absurd h (by decide)
    · exact absurd (hkind.symm.trans h) (by decide)
  rw [State.takeStatus, if_neg h0, if_neg h1]

/-- The last failed attempt of a write-back (R50, R140). -/
theorem failedAttempt_of_writeUsage (hq : queued t pre j0 post) (hhandle : j.handle = j0.handle) (hcut : j.cut = none) (hlast : j.attempts = 1)
    (ht : j.target = some i) (hkind : j.kind = .writeUsage)
    (hcls : j.cls = .writeBack ∨ (j.cls = .depart ∧ (t.station i).lifecycle = .departing)) {f : AttemptFailure}
    (hf : f = .nack ∨ f = .busFault) :
    t.failedAttempt j f = writeBackEnded (t.withBus { t.bus with jobs := pre ++ post }) i j f.result (resultCode f.result) := by
  rw [failedAttempt_of_last hcut hlast]
  exact endJob_of_failed_writeUsage (j := j.spend f) hq hhandle ht hkind hcls (by rcases hf with rfl | rfl <;> decide) []

end

end

/-- Settles O47, row by row. -/
theorem writeJobsRunTwoPhases : Obligations.WriteJobsRunTwoPhases := by
  intro s condition pre post j status hs hr hkind retry ended host usage failed
  have ⟨hq, _, hcut, hcondition, _⟩ := hr
  have hfreed := queued_freeBus hq
  have hfailed (c : Instr) (n : Nat) (hexec : goesTo (exec c s) (s.freeBus.failedAttempt { j with polls := n } .nack)) :
      failed c { j with polls := n } := by
    refine ⟨fun hleft => ?_, fun i hlast ⟨hwrite, ht, hcls, hfollow, hop⟩ => ?_, fun i hlast ⟨husage, ht, hcls, _⟩ => ?_⟩
    · exact goesTo_of_eq hexec (failedAttempt_of_left (t := s.freeBus) (j := { j with polls := n }) hfreed rfl hcut hleft .nack)
    · exact goesTo_of_eq hexec (failedAttempt_of_host (s := s.freeBus) (j := { j with polls := n }) hfreed rfl hcut hlast ht hfollow hop hcls
        (.inr hwrite) .nack)
    · exact goesTo_of_eq hexec (failedAttempt_of_writeUsage (t := s.freeBus) (j := { j with polls := n }) hfreed rfl hcut hlast ht husage hcls
        (.inl rfl))
  refine ⟨fun hown hphase => ?_, fun hphase => ?_, fun hopen => ?_⟩
  · have hwrites : j.writes = true := by rcases hkind with h | h <;> simp [Job.writes, h]
    have hexec (acknowledged : Bool) : goesTo (exec (.writePhaseEnd acknowledged) s) (s.endWritePhase j acknowledged) := by
      have hrow : goesTo (exec (.writePhaseEnd acknowledged) s) (s.onTransaction (fun s j =>
          if j.writes ∧ j.phase = .transaction then s.endWritePhase j acknowledged else s)) :=
        congrArg Host.Outcome.next (whenRunning_of_up hs _)
      rwa [onTransaction_of_running (hown ▸ hr), if_pos ⟨hwrites, hphase⟩] at hrow
    refine ⟨goesTo_of_eq (hexec true) (endWritePhase_of_acknowledged hq hcut), hfailed _ j.polls (goesTo_of_eq (hexec false) ?_)⟩
    rw [State.endWritePhase, if_neg fun h => Bool.false_ne_true h.1]
  · have hexec : goesTo (exec .statusPollWaitExpiry s) (s.endStatusWait j) := by
      have hrow : goesTo (exec .statusPollWaitExpiry s) (match s.bus.activeJob with
          | some j => if j.phase = .statusWait then s.endStatusWait j else s
          | none => s) := congrArg Host.Outcome.next (whenRunning_of_up hs _)
      rw [activeJob_of_running hr] at hrow
      exact goesTo_of_eq hrow (if_pos hphase)
    refine ⟨fun i hfree ht => goesTo_of_eq hexec ?_, fun hbusy => goesTo_of_eq hexec ?_⟩
    · rw [State.endStatusWait, if_pos (hcondition.trans hfree), State.openStatus, State.openTransaction, updateJob_of_queued hq,
        statusRead_eq_tagRead ht]
    · rw [State.endStatusWait, if_neg (hcondition ▸ hbusy), updateJob_of_queued hq]
  · have hpoll : goesTo (exec .statusPoll s) (s.pollStatus j) := by
      have hrow : goesTo (exec .statusPoll s) (s.onStatus State.pollStatus) := congrArg Host.Outcome.next (whenRunning_of_up hs _)
      rwa [onStatus_of_open hr hkind hopen] at hrow
    have hread : goesTo (exec (.statusRead status) s) (s.takeStatus status j) := by
      have hrow : goesTo (exec (.statusRead status) s) (s.onStatus (State.takeStatus status)) :=
        congrArg Host.Outcome.next (whenRunning_of_up hs _)
      rwa [onStatus_of_open hr hkind hopen] at hrow
    have hdone : status = 0 → s.takeStatus status j = s.freeBus.endJob j .done [] := fun h => by
      rw [State.takeStatus, if_pos h, finishJob_of_uncut hcut]
    refine ⟨fun hroom => goesTo_of_eq hpoll (pollStatus_of_room hq hcut hroom),
      fun hpolls => hfailed _ 8 (goesTo_of_eq hpoll (pollStatus_of_spent hpolls)),
      fun hbad => hfailed _ j.polls (goesTo_of_eq hread (takeStatus_of_failure hbad)), fun i h0 ⟨hwrite, ht, hcls, hfollow, hop⟩ => ?_,
      fun i ⟨husage, ht, hcls, hop⟩ => ⟨fun h1 => ?_, fun h0 hdisowned => ?_, fun c a used flags h0 hdisowned hwritten hc ha => ?_⟩⟩
    · have hend := endJob_of_host (s := s.freeBus) hop hfreed rfl (.inr hwrite) ht hfollow hcls .done []
      rw [ite_self] at hend
      exact goesTo_of_eq hread ((hdone h0).trans hend)
    · refine goesTo_of_eq hread (Eq.trans ?_ (endJob_of_failed_writeUsage (t := s.freeBus) hfreed rfl ht husage hcls (.inr (.inl rfl)) []))
      rw [State.takeStatus, if_neg (by rw [h1]; decide), if_pos ⟨h1, husage⟩, finishJob_of_uncut hcut]
    · refine goesTo_of_eq hread ((hdone h0).trans ((endJob_of_writeUsage (t := s.freeBus) hfreed rfl ht husage hcls rfl []).trans ?_))
      rw [State.writeBackResult, hdisowned, if_pos rfl]
      rfl
    · intro c' noted kept
      refine goesTo_of_eq hread ((hdone h0).trans ((endJob_of_done_writeUsage (t := s.freeBus) hfreed rfl ht husage hcls hdisowned hwritten hc
        []).trans ?_))
      have hc' : c.written used = c' := by rw [CartridgeRecord.written, ha]; rfl
      have hkept : checkpointed noted i c' = kept := by
        unfold checkpointed kept
        cases accountOf c' with
        | none => rfl
        | some k => exact if_pos hop
      rw [hc']
      exact hkept ▸ rfl

end Sys2Proof.Laws
end

section
set_option Elab.async false
/-! PROOFS. The bus condition (R52 to R55): losses of arbitration, foreign masters, the stuck line and its recovery (O48). -/

namespace Sys2Proof.Laws

open Sys2Proof.Machine Sys2Proof.Safety

section
variable {s t : State} {pre post : List Job} {j j0 : Job} {i : Station} {h : Nat} {condition : BusCondition} {x : AuthContext}
  {c : CartridgeRecord}

/-- The bus has no part in the end of a condition. -/
theorem endCondition_withBus (t : State) (b : Bus) (d : Condition) : (t.withBus b).endCondition d = (t.endCondition d).withBus b := by
  have hstands : (t.withBus b).stands d = t.stands d := rfl
  unfold State.endCondition
  rw [hstands]
  split <;> rfl

theorem activeJob_of_idle (h : ∀ k ∈ s.bus.jobs, k.state ≠ .active) : s.bus.activeJob = none :=
  List.find?_eq_none.mpr fun k hk => by simpa using h k hk

/-- The ACTIVE job loses the bus (R53). -/
theorem loseArbitration_of_uncut (hq : queued s pre j post) (hcut : j.cut = none) : s.loseArbitration j =
    s.withBus { s.bus with
      jobs := pre ++ { j with state := .retry, timer := none, phase := .transaction, lastFailure := .lost } :: post
      condition := .foreign, foreignTimer := true, transaction := none } := by
  have hq' : queued (s.withBus s.bus.foreign) pre j post := hq
  have hlost : s.loseArbitration j = (s.withBus s.bus.foreign).withBus
      ((s.withBus s.bus.foreign).bus.updateJob j.handle (fun j => { j.toRetry none with lastFailure := .lost })) := by
    rw [State.loseArbitration, hcut]
  rw [hlost, updateJob_of_queued hq']
  rfl

/-! ## A stuck bus (R54) -/

/-- A state as a stuck bus leaves it once the ACTIVE job's attempt, where there is one, has failed (R54). -/
def stuckAfter (before : BusCondition) (t : State) : State :=
  let x := if before = .foreign then t.endCondition .busBlocked else t
  x.withBus { x.bus with condition := .recovery, foreignTimer := false, transaction := none }

theorem stuck_of_idle (h : ∀ k ∈ s.bus.jobs, k.state ≠ .active) : s.stuck = stuckAfter s.bus.condition s := by
  rw [State.stuck, activeJob_of_idle h]
  rfl

theorem stuck_of_running (hr : running s condition pre j post) : s.stuck = stuckAfter s.bus.condition (s.failedAttempt j .busFault) := by
  rw [State.stuck, activeJob_of_running hr]
  rfl

theorem exec_stuckBus (hs : serving s) : goesTo (exec .stuckBus s) (match s.bus.condition with
    | .free | .own | .foreign => s.stuck
    | .recovery | .fault => s) := congrArg Host.Outcome.next (whenInService_of_serving hs _)

/-- The last failed attempt of a READ_ID that its context waits for (R12). -/
theorem failedAttempt_of_noTag (hq : queued s pre j0 post) (hhandle : j.handle = j0.handle) (hcut : j.cut = none) (hlast : j.attempts = 1)
    (ht : j.target = some i) (hfollow : j.followOn = none) (hcls : j.cls = .auth) (hdisowned : j.disowned = false) (hkind : j.kind = .readId)
    (hx : s.context i = some x) (hstep : x.step = .read) (hc : (s.station i).cartridge = some c) (f : AttemptFailure) :
    s.failedAttempt j f = toQuarantine (s.withBus { s.bus with jobs := pre ++ post }) i c .noTag 1 := by
  have hresult : (s.withBus { s.bus with jobs := pre ++ post }).authResult i f.result [] =
      toQuarantine (s.withBus { s.bus with jobs := pre ++ post }) i c .noTag 1 := by
    have hx' : (s.withBus { s.bus with jobs := pre ++ post }).context i = some x := hx
    simp only [State.authResult, hx', hstep, State.readIdResult]
    rw [← show causeCode .noTag = 1 from rfl, ← enterQuarantined_eq (s := s.withBus { s.bus with jobs := pre ++ post }) .noTag hc]
    cases f <;> rfl
  rw [failedAttempt_of_last hcut hlast]
  exact endJob_of_auth (j := j.spend f) hq hhandle ht hcls hfollow hdisowned (.inl hkind) hresult
    fun y hy => absurd (hy.symm.trans (toQuarantine_context ..)) (by simp)

/-! ## Recovery (R54, R55) -/

theorem recovered_of_wake (h : ∃ k ∈ s.bus.jobs, k.kind = .wake) :
    s.recovered = ((s.withBus (released s.bus s.bus.jobs)).raise .busRecovered none 0).endCondition .busFault := by
  have hany : s.bus.jobs.any (fun j => j.kind == .wake) = true := by simpa using h
  rw [State.recovered, State.requestWake]
  exact congrArg (State.endCondition · .busFault) (if_pos hany)

theorem recovered_of_no_wake (hnone : ∀ k ∈ s.bus.jobs, k.kind ≠ .wake) (hf : nextFree s h) : s.recovered =
    ((s.withBus { released s.bus (s.bus.jobs ++ [freshJob h none .wake .wake none]) with lastHandle := h }).raise .busRecovered none
      0).endCondition .busFault := by
  have hany : s.bus.jobs.any (fun j => j.kind == .wake) ≠ true := by simpa using hnone
  have hf' : nextFree (s.freeBus.raise .busRecovered none 0) h := hf
  rw [State.recovered, State.requestWake]
  exact congrArg (State.endCondition · .busFault) ((if_neg hany).trans (enqueue_eq hf' _))

theorem recoveryFailed_eq (h : s.bus.failedRecoveries + 1 ≤ 4294967295) : s.recoveryFailed = (s.withBus { s.bus with
    condition := .fault, faultTimer := true, failedRecoveries := s.bus.failedRecoveries + 1, transaction := none }).raiseCondition .busFault
      (s.bus.failedRecoveries + 1) := by
  rw [State.recoveryFailed]
  exact congrArg _ (if_pos h)

end

/-- Settles O48, row by row. -/
theorem busConditionFollowsTheBus : Obligations.BusConditionFollowsTheBus := by
  intro s pre post j c cbdHigh h hs idle lost stuck gone
  refine ⟨fun hop => ?_, fun hno => ?_, fun hyes => ?_⟩
  · have hserving : serving s := ⟨hs, hop⟩
    have hforeign : goesTo (exec .foreignStart s) s.foreignStart := congrArg Host.Outcome.next (whenRunning_of_up hs _)
    have harbitration : goesTo (exec .arbitrationLost s) (match s.bus.activeJob with
        | some j => if s.bus.sending j then s.loseArbitration j else s
        | none => s) := congrArg Host.Outcome.next (whenRunning_of_up hs _)
    have hstop : goesTo (exec .stopCondition s)
        (if s.bus.condition = .foreign then (s.freeBus.endCondition .busBlocked).continueBetween else s) :=
      congrArg Host.Outcome.next (whenInService_of_serving hserving _)
    have htimeout : goesTo (exec .foreignTimeout s) (if s.bus.condition = .foreign ∧ s.bus.foreignTimer then
        (s.withBus { s.bus with foreignTimer := false }).raiseCondition .busBlocked 0 else s) :=
      congrArg Host.Outcome.next (whenInService_of_serving hserving _)
    have hstuck := exec_stuckBus hserving
    refine ⟨fun hr => ⟨?_, ?_⟩, fun hidle => ?_, fun hfree => ?_, fun hother => ?_, fun hcondition hphase => ?_, fun i hr hphase ht => ?_,
      fun hcondition => ⟨?_, ?_⟩, fun hcondition htimer => ?_, fun hcondition hidle => ?_, fun condition hr hcondition => ?_, fun hcondition => ?_⟩
    · rw [activeJob_of_running hr] at harbitration
      have hsending : s.bus.sending j = true := by simp [Bus.sending, hr.2.2.2.1]
      exact goesTo_of_eq harbitration ((if_pos hsending).trans (loseArbitration_of_uncut hr.1 hr.2.2.1))
    · have hlost : s.foreignStart = s.onTransaction State.loseArbitration := by rw [State.foreignStart, hr.2.2.2.1]
      exact goesTo_of_eq hforeign (hlost.trans ((onTransaction_of_running hr _).trans (loseArbitration_of_uncut hr.1 hr.2.2.1)))
    · rwa [activeJob_of_idle hidle] at harbitration
    · refine goesTo_of_eq hforeign ?_
      rw [State.foreignStart, hfree]
      exact if_pos hop
    · refine goesTo_of_eq hforeign ?_
      rcases hother with h | h | h <;> rw [State.foreignStart, h]
    · refine goesTo_of_eq hstop ((if_pos hcondition).trans (continueBetween_of_none fun k hk => ?_))
      rw [(State.endCondition_frame _ _).2.2.2.2.2.2.2.1] at hk
      exact hphase k hk
    · have hend : s.freeBus.endCondition .busBlocked = (s.endCondition .busBlocked).withBus s.bus.freed := endCondition_withBus s _ _
      obtain ⟨⟨hjobs, hhandles⟩, hactive, hcut, hcondition, hothers⟩ := hr
      have hr' : running ((s.endCondition .busBlocked).withBus s.bus.freed) .free pre j post :=
        ⟨⟨hjobs, hhandles⟩, hactive, hcut, rfl, hothers⟩
      refine goesTo_of_eq hstop ((if_pos hcondition).trans ?_)
      rw [hend, continueBetween_of_running hr' hphase ht, endCondition_withBus, State.withBus_part, (State.endCondition_frame s _).2.2.2.2.2.2.2.2.2.2.2.1]
      rfl
    · exact goesTo_of_eq hstop (if_neg hcondition)
    · exact goesTo_of_eq htimeout (if_neg fun h => hcondition h.1)
    · exact goesTo_of_eq htimeout (if_pos ⟨hcondition, htimer⟩)
    · refine goesTo_of_eq hstuck (Eq.trans ?_ (stuck_of_idle hidle))
      rcases hcondition with h | h | h <;> rw [h]
    · have hacts : goesTo (exec .stuckBus s) (stuck (s.failedAttempt j .busFault)) := by
        refine goesTo_of_eq hstuck (Eq.trans ?_ (stuck_of_running hr))
        rcases hcondition with h | h | h <;> rw [hr.2.2.2.1, h]
      obtain ⟨hq, -, hcut, -⟩ := hr
      have hends {t : State} (hend : s.failedAttempt j .busFault = t) : goesTo (exec .stuckBus s) (stuck t) := hend ▸ hacts
      refine ⟨fun hleft => hends (failedAttempt_of_left hq rfl hcut hleft .busFault), fun hlast hkind ht => hends ?_, fun i hlast ht =>
        ⟨fun hkind hcls hfollow => hends (failedAttempt_of_host hq rfl hcut hlast ht hfollow hop hcls hkind .busFault),
          fun hkind hcls => hends (failedAttempt_of_writeUsage hq rfl hcut hlast ht hkind hcls (.inr rfl)),
          fun x cartridge hcls hfollow hdisowned hx hdue hc => ⟨fun hkind hstep =>
            hends (failedAttempt_of_noTag hq rfl hcut hlast ht hfollow hcls hdisowned hkind hx hstep hc .busFault), fun hsteps hf => ?_⟩⟩⟩
      · rw [failedAttempt_of_last hcut hlast]
        exact endJob_of_no_target (j := j.spend .busFault) hq rfl ht _ _
      · have hkind : j.kind = .challenge ∨ j.kind = .response := hsteps.imp (·.1) (·.1)
        have hstep : x.step = .challenge ∨ x.step = .response := hsteps.imp (·.2) (·.2)
        exact hends (failedAttempt_of_unanswered hq rfl hcut hlast ht hfollow hcls hdisowned hkind hx hstep hdue hc hf .busFault)
    · refine goesTo_of_eq hstuck ?_
      rcases hcondition with h | h <;> rw [h]
  · obtain ⟨rfl, hcondition⟩ | ⟨rfl, hcondition⟩ := hno
    · have hexec : goesTo (exec (.recoveryEnd cbdHigh) s) (if s.bus.condition = .recovery then s.endRecovery cbdHigh else s) :=
        congrArg Host.Outcome.next (whenRunning_of_up hs _)
      exact goesTo_of_eq hexec (if_neg hcondition)
    · refine congrArg Host.Outcome.next ?_
      unfold State.whenInService
      split
      next hin =>
        have hop := (serving_of_inService hin).2
        exact if_neg fun ⟨hfault, htimer⟩ => hcondition.elim (fun h => absurd (h.symm.trans hop) (by decide))
          (fun h => h.elim (absurd hfault) (fun hoff => absurd (hoff.symm.trans htimer) (by decide)))
      next => rfl
  · have hexec : goesTo (exec c s) (s.endRecovery cbdHigh) := by
      obtain ⟨rfl, hcondition⟩ | ⟨rfl, hop, hcondition, htimer⟩ := hyes
      · have hexec : goesTo (exec (.recoveryEnd cbdHigh) s) (if s.bus.condition = .recovery then s.endRecovery cbdHigh else s) :=
          congrArg Host.Outcome.next (whenRunning_of_up hs _)
        exact goesTo_of_eq hexec (if_pos hcondition)
      · have hexec : goesTo (exec (.faultRetryExpiry cbdHigh) s)
            (if s.bus.condition = .fault ∧ s.bus.faultTimer then s.endRecovery cbdHigh else s) :=
          congrArg Host.Outcome.next (whenInService_of_serving ⟨hs, hop⟩ _)
        exact goesTo_of_eq hexec (if_pos ⟨hcondition, htimer⟩)
    refine ⟨fun hhigh hwake => ?_, fun hhigh hnone hf => ?_, fun hlow hcount => ?_⟩
    · exact goesTo_of_eq hexec ((if_pos hhigh).trans (recovered_of_wake hwake))
    · exact goesTo_of_eq hexec ((if_pos hhigh).trans (recovered_of_no_wake hnone hf))
    · exact goesTo_of_eq hexec ((if_neg (by rw [hlow]; decide)).trans (recoveryFailed_eq hcount))

end Sys2Proof.Laws
end

section
set_option Elab.async false
/-! PROOFS. Big-endian numbers, RESPONSE_READ_END and the digest unit (O50, O51). -/

namespace Sys2Proof.Laws

open Sys2Proof.Machine Sys2Proof.Safety

/-! ## Numbers most significant byte first -/

theorem beNumber_append (bytes : List Byte) (b : Byte) : beNumber (bytes ++ [b]) = 256 * beNumber bytes + b.toNat := by simp [beNumber]

theorem beNumber_eq_leNumber (bytes : List Byte) : beNumber bytes = leNumber bytes.reverse := by
  induction bytes using List.reverseRecOn with
  | nil => rfl
  | append_singleton bytes b ih =>
    rw [beNumber_append, ih, List.reverse_concat, leNumber]
    omega

/-- A number's bytes read back. -/
theorem leNumber_leBytes (n x : Nat) : leNumber (leBytes n x) = x % 256 ^ n := by
  induction n generalizing x with
  | zero => simp [leBytes, leNumber, Nat.mod_one]
  | succ n ih =>
    have hsplit : x % 256 ^ (n + 1) = x % 256 + 256 * (x / 256 % 256 ^ n) := by rw [pow_succ', Nat.mod_mul]
    rw [leBytes, leNumber, ih, BitVec.toNat_ofNat, hsplit]

theorem beNumber_beBytes (n x : Nat) : beNumber (beBytes n x) = x % 256 ^ n := by
  rw [beNumber_eq_leNumber, beBytes, List.reverse_reverse, leNumber_leBytes]

/-- A response as its bytes carry it (R48). -/
theorem digest_beBytes (d : Digest) : BitVec.ofNat 64 (beNumber (beBytes 8 d.toNat)) = d := by
  have hfits : d.toNat % 256 ^ 8 = d.toNat := Nat.mod_eq_of_lt (by have := d.isLt; norm_num at this ⊢; exact this)
  rw [beNumber_beBytes, hfits, BitVec.ofNat_toNat, BitVec.setWidth_eq]

/-- A field of the cartridge bus, in the word of the statements. -/
theorem beField_eq_be (bytes : List Byte) (place n : Nat) : beField bytes place n = be bytes place n := by
  have hshort : ((bytes.drop place).take n).reverse.length ≤ n := by simp
  rw [beField, beNumber_eq_leNumber, be, ← leField_eq_le, leField]
  congr 1
  exact (List.take_of_length_le hshort).symm

section
variable {s t : State} {pre post : List Job} {j : Job} {i : Station} {x : AuthContext} {c : CartridgeRecord} {h : Nat}

/-! ## Responses (R48, R65) -/

theorem exec_responseReadEnd (hs : up s) (hr : running s .own pre j post) (hkind : j.kind = .response) (response : Option Digest) :
    goesTo (exec (.responseReadEnd response) s) (s.endResponse j response) := by
  have hexec : goesTo (exec (.responseReadEnd response) s)
      (s.onTransaction (fun s j => if j.kind = .response then s.endResponse j response else s)) :=
    congrArg Host.Outcome.next (whenRunning_of_up hs _)
  rwa [onTransaction_of_running hr, if_pos hkind] at hexec

/-- A response that its context waits for goes to the digest unit (R65, R68). -/
theorem authResult_of_response {id : Identity} {challenge : Digest} {used : Nat} (hx : t.context i = some x) (hstep : x.step = .response)
    (hc : (t.station i).cartridge = some c) (hid : c.identity = some id) (hchallenge : x.challenge = some challenge)
    (hused : x.digestUsed = some used) (response : Digest) :
    t.authResult i .done (beBytes 8 response.toNat) = t.withAuth { t.auth with
      contexts := t.auth.contexts.set i (some { x with step := .verify })
      fifo := t.auth.fifo ++ [⟨i, id.keyIndex, id.serial, challenge, used, id.fillGeneration, response⟩] } := by
  have hrequest : verifyRequest i x id response = some ⟨i, id.keyIndex, id.serial, challenge, used, id.fillGeneration, response⟩ := by
    rw [verifyRequest, hchallenge, hused]
  simp only [State.authResult, hx, hstep, State.responseResult, digest_beBytes, State.sendVerify, hc, Option.bind_some, hid, hrequest]
  rfl

/-! ## The digest unit (R68 to R70) -/

theorem keyState_eq_some_iff {n : Nat} {k : KeyState} : s.keyState n = some k ↔
    ∃ m : KeySlot, n = m.val ∧ (s.store.keySlots[m]).state = k := by
  constructor
  · intro hk
    rcases Nat.lt_or_ge n 4 with hn | hn
    · rw [show n = (⟨n, hn⟩ : KeySlot).val from rfl, keyState_val] at hk
      exact ⟨⟨n, hn⟩, rfl, Option.some.inj hk⟩
    · rw [keyState_of_le hn] at hk
      cases hk
  · rintro ⟨m, rfl, hm⟩
    rw [keyState_val, hm]

theorem liveSecret_of_live (k : KeySlot) (hlive : (s.store.keySlots[k]).state = .live) :
    s.liveSecret k.val = (s.store.keySlots[k]).secret := by
  rw [State.liveSecret, dif_pos k.isLt]
  change (match s.store.keySlots[k] with | ⟨.live, secret⟩ => secret | ⟨.empty, _⟩ | ⟨.revoked, _⟩ => none) = _
  rcases hslot : s.store.keySlots[k] with ⟨state, secret⟩
  rw [hslot] at hlive
  cases hlive
  rfl

theorem startVerify_of_busy (h : s.auth.computing ≠ none ∨ s.auth.fifo = []) : s.startVerify = s := by
  unfold State.startVerify
  split
  next hcomputing hfifo => exact absurd h (by simp [hcomputing, hfifo])
  next => rfl

end

/-- Settles O50, row by row. -/
theorem responsesAreSentToTheDigestUnit : Obligations.ResponsesAreSentToTheDigestUnit := by
  intro s pre post j i x c id challenge response used h hs ended
  refine ⟨fun hr hkind => ?_, fun hbusy => ?_, fun r rest k hidle hfifo hkey hlive => ?_⟩
  · have hexec := exec_responseReadEnd hs.1 hr hkind
    obtain ⟨hq, -, hcut, -⟩ := hr
    have hfreed := queued_freeBus hq
    have hend : s.endResponse j (some response) = s.freeBus.endJob j .done (beBytes 8 response.toNat) := finishJob_of_uncut hcut _ _
    refine ⟨fun hleft => ?_, fun ht hcls hfollow hdisowned hx hstep hdue hc => ⟨fun hlast hf => ?_, fun hchallenge hused hid => ?_⟩,
      fun ht hcls hfollow hdisowned hf => ⟨?_, fun hlast => ?_⟩⟩
    · exact goesTo_of_eq (hexec none) (failedAttempt_of_left (t := s.freeBus) hfreed rfl hcut hleft .nack)
    · exact goesTo_of_eq (hexec none) (failedAttempt_of_unanswered (s := s.freeBus) hfreed rfl hcut hlast ht hfollow hcls hdisowned
        (.inr hkind) hx (.inr hstep) hdue hc hf .nack)
    · refine goesTo_of_eq (hexec (some response)) (hend.trans (endJob_of_auth hfreed rfl ht hcls hfollow hdisowned (.inr (.inr hkind))
        (authResult_of_response (t := ended) hx hstep hc hid hchallenge hused response) fun y hy => ?_))
      obtain rfl := Option.some.inj ((setContext_context ended i (some { x with step := .verify })).symm.trans hy)
      exact hdue
    · exact goesTo_of_eq (hexec (some response)) (hend.trans (endJob_of_abandoned (t := s.freeBus) hfreed rfl ht hcls hfollow hdisowned
        (.inr (.inr hkind)) hs.2 hf _ _))
    · exact goesTo_of_eq (hexec none) (failedAttempt_of_abandoned (s := s.freeBus) hfreed rfl hcut hlast ht hfollow hcls hdisowned
        (.inr (.inr hkind)) hs.2 hf .nack)
  · exact congrArg Host.Outcome.next ((whenInService_of_serving hs _).trans (startVerify_of_busy hbusy))
  · refine congrArg Host.Outcome.next ((whenInService_of_serving hs _).trans ?_)
    rw [State.startVerify, hidle, hfifo]
    dsimp only
    rw [State.expectedDigest, hkey, liveSecret_of_live k hlive]

section
variable {s t : State} {i : Station} {x : AuthContext} {c : CartridgeRecord} {h : Nat} {r : VerifyRequest} {expected : Digest}

/-! ## Completions (R70) -/

/-- A completion at a context (R70). -/
theorem verifyOutcome_of_context (hx : t.context r.station = some x) : t.verifyOutcome ⟨r, expected, false⟩ =
    if t.keyState r.keyIndex = some .revoked then t.enterQuarantined r.station .keyRevoked
    else if expected = r.response then if x.recheck then t.recheckPass r.station else t.firstPass r.station
    else t.endAttempt r.station x .mismatch := by
  rw [State.verifyOutcome, hx]

/-- The evidence or the carried class makes a first pass one of REFILLED (R75). -/
def passesRefilled (c : CartridgeRecord) : Prop :=
  c.evidence ≠ ⟨false, false, false, false, false, false⟩ ∨ c.origin = some (.restored .refilled)

theorem passClass_of_refilled (hr : passesRefilled c) : c.passClass = .refilled :=
  if_neg fun ⟨he, ho⟩ => hr.elim (fun h => h he) ho

theorem passClass_of_genuine (hr : ¬ passesRefilled c) : c.passClass = .genuine :=
  if_pos (not_or.mp hr |>.imp_left not_not.mp)

/-- The consumption of a departed entry, with the table's write where there was one (R148). -/
theorem consumeDeparted_eq (t : State) (serial : Serial) :
    let table := { t.departed with entries := t.departed.entries.filter (fun e => e.serial ≠ serial) }
    t.consumeDeparted serial = (t.withDeparted table).withWrites
      (t.writes ++ if ∃ e ∈ t.departed.entries, e.serial = serial then [⟨.departed table, false⟩] else []) := by
  intro table
  unfold State.consumeDeparted
  by_cases hmem : ∃ e ∈ t.departed.entries, e.serial = serial
  · obtain ⟨e, he⟩ := lookup_isSome hmem
    rw [he, if_pos hmem, remove_eq]
    rfl
  · have hkept : table = t.departed := by
      have hall : t.departed.entries.filter (fun e => e.serial ≠ serial) = t.departed.entries :=
        List.filter_eq_self.mpr fun e he => by simpa using fun h => hmem ⟨e, he, h⟩
      simp only [table, hall]
    rw [lookup_eq_none fun e he h => hmem ⟨e, he, h⟩, if_neg hmem, hkept, List.append_nil]
    rfl

/-- The state of a first pass before its move: the record passed, the entry consumed, the checkpoint written, the context cleared (R15). -/
def vouchedFor (t : State) (i : Station) (c : CartridgeRecord) (id : Identity) : State :=
  let table := { t.departed with entries := t.departed.entries.filter (fun e => e.serial ≠ id.serial) }
  (((t.setContext i none).setStation i { t.station i with cartridge := some c.passed }).withDeparted table).withWrites
    (t.writes ++ (if ∃ e ∈ t.departed.entries, e.serial = id.serial then [⟨.departed table, false⟩] else [])
      ++ match accountOf c.passed with | some k => [⟨.checkpoint i (some k), false⟩] | none => [])

theorem firstPass_eq {id : Identity} (hc : (t.station i).cartridge = some c) (hid : c.identity = some id) (hop : t.operating = .operating) :
    t.firstPass i = (vouchedFor t i c id).moveAfterPass i c.passClass := by
  have hrecord : (((t.setStation i { t.station i with cartridge := some c.passed }).consumeDeparted id.serial).station i).cartridge
      = some c.passed := by
    rw [station_congr (s := t.setStation i { t.station i with cartridge := some c.passed }) (by simp), State.setStation_station_same]
  rw [State.firstPass, hc]
  dsimp only
  rw [modCartridge_eq hc, hid]
  dsimp only
  rw [writeCheckpoint_eq hrecord, consumeDeparted_eq]
  congr 1
  unfold checkpointed vouchedFor
  dsimp only
  cases accountOf c.passed with
  | none => simp only [List.append_nil]; rfl
  | some k => exact (congrArg (State.setContext · i none) (if_pos hop)).trans rfl

theorem vouchedFor_record (t : State) (i : Station) (c : CartridgeRecord) (id : Identity) :
    ((vouchedFor t i c id).station i).cartridge = some c.passed := by
  have hstation : (vouchedFor t i c id).station i = { t.station i with cartridge := some c.passed } :=
    State.setStation_station_same (t.setContext i none) i _
  rw [hstation]

theorem moveAfterPass_of_quarantine (hp : t.part.policy = .quarantine) : t.moveAfterPass i .refilled = t.enterQuarantined i .refill := by
  simp only [State.moveAfterPass, hp]

theorem moveAfterPass_of_warn (hp : t.part.policy = .warn) : t.moveAfterPass i .refilled = t.enterActive i := by
  simp only [State.moveAfterPass, hp]

theorem moveAfterPass_of_genuine (t : State) (i : Station) : t.moveAfterPass i .genuine = t.enterActive i := by
  cases t.part.policy <;> rfl

theorem trustValue_of_record (hc : (t.station i).cartridge = some c) : t.trustValue i = trustNumber c.trust := by
  rw [State.trustValue, hc]
  exact trustCode_eq c.trust

theorem exec_verifyCompletion {s : State} (hs : serving s) : goesTo (exec .verifyCompletion s) s.completeVerify :=
  congrArg Host.Outcome.next (whenInService_of_serving hs _)

end

/-- Settles O51, by the digests and the kind of authentication. -/
theorem completionsDecideTheOutcome : Obligations.CompletionsDecideTheOutcome := by
  intro s r expected withdrawn x c h hs i done revoked
  have hexec := exec_verifyCompletion hs
  refine ⟨fun hidle => ?_, fun hcomputing => ?_⟩
  · exact goesTo_of_eq hexec (by rw [State.completeVerify, hidle])
  have hcomplete : s.completeVerify = if withdrawn then done else done.verifyOutcome ⟨r, expected, withdrawn⟩ := by
    rw [State.completeVerify, hcomputing]
  have hrevoked : done.keyState r.keyIndex = some .revoked ↔ revoked := keyState_eq_some_iff
  refine ⟨fun hdiscarded => goesTo_of_eq hexec (hcomplete.trans ?_), fun hlive hx hc => ?_⟩
  · rcases hdiscarded with hw | hx
    · rw [hw, if_pos rfl]
    · have hx' : done.context r.station = none := hx
      have hnothing : done.verifyOutcome ⟨r, expected, withdrawn⟩ = done := by rw [State.verifyOutcome, hx']
      rw [hnothing, ite_self]
  have hx' : done.context r.station = some x := hx
  have hc' : (done.station i).cartridge = some c := hc
  rw [hcomplete, hlive, if_neg Bool.false_ne_true, verifyOutcome_of_context hx'] at hexec
  refine ⟨fun hrev => ?_, fun hrev heq hrecheck => ?_, fun hrev heq hfirst id capacity a hid hcapacity ha => ?_, fun hrev hne => ?_⟩
  · exact goesTo_of_eq hexec ((if_pos (hrevoked.mpr hrev)).trans (enterQuarantined_eq (s := done) .keyRevoked hc'))
  · rw [if_neg fun hk => hrev (hrevoked.mp hk), if_pos heq, if_pos hrecheck] at hexec
    refine goesTo_of_eq hexec ?_
    rw [State.recheckPass, trustValue_of_record hc']
  · intro refilled passed table consumption kept vouched
    rw [if_neg fun hk => hrev (hrevoked.mp hk), if_pos heq, hfirst, if_neg Bool.false_ne_true, firstPass_eq hc' hid hs.2] at hexec
    have hpassed : c.passed = passed := by
      by_cases hr : refilled
      · simp only [CartridgeRecord.passed, passClass_of_refilled hr, passed, if_pos hr, AccountClass.trust]
      · simp only [CartridgeRecord.passed, passClass_of_genuine hr, passed, if_neg hr, AccountClass.trust]
    have haccount : accountOf passed = some kept := by
      unfold accountOf passed kept
      by_cases hr : refilled
      · simp [hid, hcapacity, ha, hr]
      · simp [hid, hcapacity, ha, hr]
    have hvouched : vouchedFor done i c id = vouched := by
      rw [vouchedFor, hpassed, haccount]
      rfl
    have hrecord : (vouched.station i).cartridge = some passed := by rw [← hvouched, vouchedFor_record, hpassed]
    rw [hvouched] at hexec
    refine ⟨fun hr hpolicy => goesTo_of_eq hexec ?_, fun hmoves => goesTo_of_eq hexec ?_⟩
    · have hpolicy' : vouched.part.policy = .quarantine := hpolicy
      rw [passClass_of_refilled hr, moveAfterPass_of_quarantine hpolicy']
      exact enterQuarantined_eq .refill hrecord
    · have hmove : vouched.moveAfterPass i c.passClass = vouched.enterActive i := by
        by_cases hr : refilled
        · have hpolicy' : vouched.part.policy = .warn := hmoves.resolve_left (fun h => h hr)
          rw [passClass_of_refilled hr, moveAfterPass_of_warn hpolicy']
        · rw [passClass_of_genuine hr, moveAfterPass_of_genuine]
      rw [hmove, enterActive_eq hrecord hcapacity ha]
  · rw [if_neg fun hk => hrev (hrevoked.mp hk), if_neg hne] at hexec
    refine ⟨fun hsecond => goesTo_of_eq hexec ?_, fun hfirst hf => goesTo_of_eq hexec ?_⟩
    · exact (if_neg hsecond).trans (enterQuarantined_eq (s := done) .badResponse hc')
    · exact (if_pos hfirst).trans (beginAttempt_eq (s := done) _ hf)

end Sys2Proof.Laws
end

section
set_option Elab.async false
/-! PROOFS. Identification and the recheck's read (R12 to R14, R37, R79, R150, R151): what a READ_ID's bytes say, the six checks, the reconciliation
with the departed table, and O49. -/

namespace Sys2Proof.Laws

open Sys2Proof.Machine Sys2Proof.Safety

/-! ## The bytes of a READ_ID -/

section
variable {data : List Byte}

theorem be_one {place : Nat} (h : place < data.length) : be data place 1 = (data.getD place 0).toNat := by
  rw [← beField_eq_be, beField, byteSlice, List.drop_eq_getElem_cons h, List.getD_eq_getElem _ _ h, List.take_succ_cons,
    List.take_zero]
  exact Nat.zero_add _

theorem recordGood_iff (bytes : List Byte) : recordGood bytes = true ↔ (bytes.map (·.toNat)).sum % 256 = 0 := by
  rw [recordGood, beq_iff_eq, ← byteSum_toNat, BitVec.toNat_eq]
  rfl

/-- Both records of a READ_ID's 36 bytes sum to 0 (R37). -/
theorem recordsGood_iff (hlength : data.length = 36) : recordsGood data = true ↔
    ((data.take 24).map (·.toNat)).sum % 256 = 0 ∧ ((data.drop 24).map (·.toNat)).sum % 256 = 0 := by
  have hidentity : identityBytes data = data.take 24 := rfl
  have husage : usageBytes data = data.drop 24 := List.take_of_length_le (by simp [hlength])
  rw [recordsGood, Bool.and_eq_true, recordGood_iff, recordGood_iff, hidentity, husage]

theorem readSerial_eq {serial : Serial} (h : serial.toNat = be data 0 8) : readSerial data = serial := by
  rw [readSerial, beField_eq_be, ← h, BitVec.ofNat_toNat, BitVec.setWidth_eq]

/-- The identity and the tag figures of a READ_ID's bytes (R37). -/
theorem readIdentity_eq {id : Identity} (hlength : data.length = 36) (hserial : id.serial.toNat = be data 0 8)
    (hink : id.inkType = be data 8 2) (hkey : id.keyIndex = be data 14 1) (hfill : id.fillGeneration = be data 15 1)
    (hused : id.tagUsed = be data 24 4) (hlatch : id.tagFlags.emptyLatch = (data.getD 28 0).getLsbD 0)
    (hmark : id.tagFlags.refillMark = (data.getD 28 0).getLsbD 1) : readIdentity data = id := by
  obtain ⟨serial, inkType, keyIndex, fillGeneration, tagUsed, ⟨latch, mark⟩⟩ := id
  dsimp only at *
  rw [readIdentity, readSerial_eq hserial, readTagUsed, beField_eq_be, beField_eq_be, ← hink, ← hused]
  rw [be_one (by omega)] at hkey hfill
  rw [byteAt, byteAt, ← hkey, ← hfill, readTagFlags, byteAt, ← hlatch, ← hmark]

end

/-! ## The six checks (R13) -/

section
variable {s t : State} {i : Station} {c : CartridgeRecord} {id : Identity} {data : List Byte}

/-- The other stations decide whether a serial is held elsewhere. -/
theorem heldElsewhere_congr (h : ∀ k, k ≠ i → t.station k = s.station k) (serial : Serial) : t.heldElsewhere i serial = s.heldElsewhere i serial := by
  rw [Bool.eq_iff_iff, heldElsewhere_iff, heldElsewhere_iff]
  refine exists_congr fun j => exists_congr fun d => exists_congr fun jd => and_congr_right fun hj => ?_
  rw [h j hj]

theorem fieldsInRange_iff (hlength : data.length = 36) : fieldsInRange data = true ↔
    1000000 ≤ be data 10 4 ∧ be data 10 4 ≤ 2000000000 ∧ be data 14 1 ≤ 15 := by
  have hkey : (byteAt data 14).toNat = be data 14 1 := (be_one (by omega)).symm
  simp only [fieldsInRange, readCapacity, beField_eq_be, hkey, Bool.and_eq_true, decide_eq_true_eq, and_assoc]

/-- Quarantining a station whose record has just been changed: the earlier record is gone (R8). -/
theorem toQuarantine_setStation (t : State) (i : Station) (c c' : CartridgeRecord) (cause : QuarantineCause) (code : Nat) :
    toQuarantine (t.setStation i { t.station i with cartridge := some c' }) i c cause code = toQuarantine t i c cause code := by
  rw [toQuarantine, State.setStation_station_same, setStation_setStation]
  rfl

/-- The record of a cartridge whose identity has been read (R4, R37). -/
def knownAs (c : CartridgeRecord) (id : Identity) (capacity : Nat) : CartridgeRecord :=
  { c with identity := some id, capacity := some capacity, emptyLatch := id.tagFlags.emptyLatch, refillMark := id.tagFlags.refillMark }

/-- What follows the first two checks (R13). -/
theorem identifyCartridge_eq (hc : (t.station i).cartridge = some c) (hid : readIdentity data = id) :
    t.identifyCartridge i data =
      let known := knownAs c id (readCapacity data)
      let s1 := t.setStation i { t.station i with cartridge := some known }
      if (recordsGood data && fieldsInRange data) = true then
        match s1.laterChecks i id with
        | some cause => toQuarantine t i known cause (causeCode cause)
        | none => s1.enterAuthenticating i id
      else toQuarantine t i c .malformed 2 := by
  have hknown : c.identified data = knownAs c id (readCapacity data) := by rw [CartridgeRecord.identified, hid]; rfl
  rw [State.identifyCartridge, modCartridge_eq hc, hknown, hid]
  dsimp only
  refine ite_congr rfl (fun _ => ?_) fun _ => enterQuarantined_eq .malformed hc
  cases (t.setStation i { t.station i with cartridge := some (knownAs c id (readCapacity data)) }).laterChecks i id with
  | some cause =>
    exact (enterQuarantined_eq (c := knownAs c id (readCapacity data)) _ (by rw [State.setStation_station_same])).trans
      (toQuarantine_setStation ..)
  | none => rfl

/-- Checks 3 to 6 in their order (R13). -/
theorem laterChecks_eq (s : State) (i : Station) (id : Identity) : s.laterChecks i id =
    if (s.station i).config.expectedInk ≠ 0 ∧ id.inkType ≠ (s.station i).config.expectedInk then some .wrongInk
    else if s.heldElsewhere i id.serial then some .duplicate
    else if s.keyState id.keyIndex = some .live then none
    else if s.keyState id.keyIndex = some .revoked then some .keyRevoked
    else some .keyAbsent := by
  rw [State.laterChecks]
  refine ite_congr rfl (fun _ => rfl) fun _ => ite_congr rfl (fun _ => rfl) fun _ => ?_
  cases s.keyState id.keyIndex with
  | none => rfl
  | some k => cases k <;> rfl

end

/-! ## Reconciliation (R150, R151) -/

section
variable {s t : State} {i : Station} {c : CartridgeRecord} {id : Identity}

theorem joinedEvidence_setOf_cons (e : EvidenceSet) (k : EvidenceKind) (ks : List EvidenceKind) :
    joinedEvidence (joinedEvidence e (Safety.setOf [k])) (Safety.setOf ks) = joinedEvidence e (Safety.setOf (k :: ks)) := by
  simp [joinedEvidence, Safety.setOf, Bool.or_assoc]

theorem joinedEvidence_setOf_nil (e : EvidenceSet) : joinedEvidence e (Safety.setOf []) = e := by
  simp [joinedEvidence, Safety.setOf]

/-- The record of a cartridge that is not authenticated after several kinds of evidence (R153). -/
def evidencedBy (c : CartridgeRecord) (ks : List EvidenceKind) : CartridgeRecord :=
  { c with evidence := joinedEvidence c.evidence (Safety.setOf ks), refillMark := c.refillMark || !ks.isEmpty }

/-- Several kinds of evidence recorded for a PENDING cartridge, one after another (R153). -/
theorem foldl_recordEvidence_of_pending (hc : (t.station i).cartridge = some c) (htrust : c.trust = .pending) (hauth : c.authenticated = false)
    (ks : List EvidenceKind) : ks.foldl (fun s k => s.recordEvidence i k) t =
      (t.withEvents (ks.foldl (fun q k => q.raise none .refillSuspected (some i) (evidenceNumber k)) t.events)).setStation i
        { t.station i with cartridge := some (evidencedBy c ks) } := by
  induction ks generalizing t c with
  | nil =>
    have hsame : evidencedBy c [] = c := by simp [evidencedBy, joinedEvidence_setOf_nil]
    rw [hsame, ← hc]
    exact (setStation_self t i).symm
  | cons k ks ih =>
    have hevidenced : evidenced c k = evidencedBy c [k] := by simp [evidenced, evidencedBy, hauth, htrust]
    have hcons : evidencedBy (evidencedBy c [k]) ks = evidencedBy c (k :: ks) := by
      simp [evidencedBy, joinedEvidence_setOf_cons]
    rw [List.foldl_cons, recordEvidence_of_provisional hc hauth, hevidenced,
      ih (c := evidencedBy c [k]) (by rw [raise_station, State.setStation_station_same]) htrust hauth, hcons, raise_station,
      State.setStation_station_same]
    exact setStation_setStation (t.withEvents ((k :: ks).foldl (fun q k => q.raise none .refillSuspected (some i) (evidenceNumber k)) t.events))
      i { t.station i with cartridge := some (evidencedBy c [k]) } { t.station i with cartridge := some (evidencedBy c (k :: ks)) }

/-- The used figure at an arrival: the larger of the tag's and the departed entry's (R150). -/
def arrivalUsed (id : Identity) : Option DepartedEntry → Nat
  | none => id.tagUsed
  | some d => max d.used id.tagUsed

/-- The figures and the origin that an arrival sets (R150). -/
def arrived (c : CartridgeRecord) (id : Identity) (e : Option DepartedEntry) : CartridgeRecord :=
  { c with
    account := some ⟨arrivalUsed id e, id.tagUsed, id.tagUsed, id.tagFlags⟩
    origin := some (match e with | none => .new | some d => .restored d.cls) }

theorem reconciled_eq (c : CartridgeRecord) (id : Identity) (e : Option DepartedEntry) : c.reconciled id e = arrived c id e := by
  cases e with
  | none => rfl
  | some d =>
    have hmax : (if d.used < id.tagUsed then id.tagUsed else d.used) = max d.used id.tagUsed := by
      split <;> omega
    simp only [CartridgeRecord.reconciled, arrived, arrivalUsed, hmax]

/-- A class that write-backs are not made for has no write-back need (R136). -/
theorem afterNeed_of_pending (h : c.trust = .pending) (t : State) (i : Station) : afterNeed t i c = t := by
  have hno : needsWriteBack t.part.quantum c = false := by
    unfold needsWriteBack
    split
    · simp [h]
    · rfl
  rw [afterNeed, hno]
  exact if_neg fun hn => Bool.false_ne_true hn.2

/-- The level band of a PENDING record with figures: nothing is written back (R128, R136). -/
theorem computeBand_of_pending {capacity : Nat} {a : Account} (hc : (t.station i).cartridge = some c) (hcapacity : c.capacity = some capacity)
    (ha : c.account = some a) (htrust : c.trust = .pending) : t.computeBand i =
      (t.withEvents (levelEvents t.part i capacity a.used c t.events)).setStation i
        { t.station i with cartridge := some (withLevel t.part capacity a.used c) } := by
  rw [computeBand_eq, bandComputed_of_figures hc hcapacity ha]
  dsimp only
  rw [afterNeed_of_pending (c := withLevel t.part capacity a.used c) htrust, ite_self]

/-- The evidence set with the departed entry's (R151 step 2). -/
def entryEvidence (c : CartridgeRecord) : Option DepartedEntry → EvidenceSet
  | none => c.evidence
  | some d => joinedEvidence c.evidence d.evidence

theorem mergeEntry_eq (c : CartridgeRecord) (e : Option DepartedEntry) : c.mergeEntry e = { c with evidence := entryEvidence c e } := by
  cases e <;> rfl

/-- A record after its reconciliation (R150, R151). -/
def reconciledRecord (p : PartConfig) (c : CartridgeRecord) (id : Identity) (capacity : Nat) (e : Option DepartedEntry) : CartridgeRecord :=
  evidencedBy { withLevel p capacity (arrivalUsed id e) (arrived c id e) with evidence := entryEvidence c e } (arrivalEvidence id e)

/-- Reconciliation of a PENDING cartridge whose identity is known (R150, R151). -/
theorem reconcile_eq {capacity : Nat} {e : Option DepartedEntry} (hc : (t.station i).cartridge = some c)
    (hcapacity : c.capacity = some capacity) (htrust : c.trust = .pending) (hauth : c.authenticated = false)
    (he : t.departed.lookup id.serial = e) : t.reconcile i id =
      (t.withEvents ((arrivalEvidence id e).foldl (fun q k => q.raise none .refillSuspected (some i) (evidenceNumber k))
        (levelEvents t.part i capacity (arrivalUsed id e) c t.events))).setStation i
          { t.station i with cartridge := some (reconciledRecord t.part c id capacity e) } := by
  let s1 := t.setStation i { t.station i with cartridge := some (arrived c id e) }
  have hs1 : s1.station i = { t.station i with cartridge := some (arrived c id e) } := State.setStation_station_same ..
  have hband : s1.computeBand i = (t.withEvents (levelEvents t.part i capacity (arrivalUsed id e) c t.events)).setStation i
      { t.station i with cartridge := some (withLevel t.part capacity (arrivalUsed id e) (arrived c id e)) } := by
    rw [computeBand_of_pending (c := arrived c id e) (by rw [hs1]) hcapacity rfl htrust, hs1]
    exact setStation_setStation (t.withEvents (levelEvents t.part i capacity (arrivalUsed id e) c t.events)) i _ _
  let c1 : CartridgeRecord := { withLevel t.part capacity (arrivalUsed id e) (arrived c id e) with evidence := entryEvidence c e }
  have hmerged : (s1.computeBand i).modCartridge i (CartridgeRecord.mergeEntry e) =
      (t.withEvents (levelEvents t.part i capacity (arrivalUsed id e) c t.events)).setStation i { t.station i with cartridge := some c1 } := by
    rw [hband, modCartridge_eq (c := withLevel t.part capacity (arrivalUsed id e) (arrived c id e)) (by rw [State.setStation_station_same]),
      State.setStation_station_same, setStation_setStation, mergeEntry_eq]
    rfl
  rw [State.reconcile, he]
  dsimp only
  rw [modCartridge_eq hc, reconciled_eq, hmerged, foldl_recordEvidence_of_pending (c := c1) (by rw [State.setStation_station_same]) htrust hauth,
    State.setStation_station_same]
  exact setStation_setStation (t.withEvents ((arrivalEvidence id e).foldl (fun q k => q.raise none .refillSuspected (some i) (evidenceNumber k))
    (levelEvents t.part i capacity (arrivalUsed id e) c t.events))) i { t.station i with cartridge := some c1 }
    { t.station i with cartridge := some (reconciledRecord t.part c id capacity e) }

/-- A cartridge that has passed the six checks: reconciled, AUTHENTICATING, attempt 1 begun (R14, R63). -/
theorem enterAuthenticating_eq {capacity h : Nat} {e : Option DepartedEntry} {x : AuthContext} (hx : t.context i = some x)
    (hf : nextFree t h) (htrust : c.trust = .pending) (hauth : c.authenticated = false) (he : t.departed.lookup id.serial = e) :
    let known := knownAs c id capacity
    (t.setStation i { t.station i with cartridge := some known }).enterAuthenticating i id =
      attemptBegun ((t.setStation i
        { t.station i with lifecycle := .authenticating, cartridge := some (reconciledRecord t.part known id capacity e) }).withEvents
          ((arrivalEvidence id e).foldl (fun q k => q.raise none .refillSuspected (some i) (evidenceNumber k))
            (levelEvents t.part i capacity (arrivalUsed id e) known t.events))) i { x with digestUsed := some id.tagUsed } h := by
  intro known
  let s1 := t.setStation i { t.station i with cartridge := some known }
  let u := (t.setStation i
    { t.station i with lifecycle := .authenticating, cartridge := some (reconciledRecord t.part known id capacity e) }).withEvents
      ((arrivalEvidence id e).foldl (fun q k => q.raise none .refillSuspected (some i) (evidenceNumber k))
        (levelEvents t.part i capacity (arrivalUsed id e) known t.events))
  have hs1 : s1.station i = { t.station i with cartridge := some known } := State.setStation_station_same ..
  have hmoved : (s1.reconcile i id).modStation i (fun r => { r with lifecycle := .authenticating }) = u := by
    rw [reconcile_eq (t := s1) (c := known) (by rw [hs1]) rfl htrust hauth he, modStation_setStation, hs1]
    exact setStation_setStation (t.withEvents ((arrivalEvidence id e).foldl (fun q k => q.raise none .refillSuspected (some i) (evidenceNumber k))
      (levelEvents t.part i capacity (arrivalUsed id e) known t.events))) i { t.station i with cartridge := some known } _
  have hu : u.context i = some x := hx
  rw [State.enterAuthenticating, hmoved]
  dsimp only
  rw [hu]
  exact beginAttempt_eq (s := u) _ hf

/-! ## The recheck's read (R79) -/

theorem continueRecheck_of_context {x : AuthContext} {h : Nat} (hx : t.context i = some x) (hf : nextFree t h) (used : Nat) :
    t.continueRecheck i used = attemptBegun t i { x with digestUsed := some used } h := by
  rw [State.continueRecheck, hx]
  exact beginAttempt_eq _ hf

theorem continueRecheck_of_none (hx : t.context i = none) (used : Nat) : t.continueRecheck i used = t := by rw [State.continueRecheck, hx]

/-- A recording of evidence abandons the context or leaves it as it was (R8, R154). -/
theorem recordEvidence_context (t : State) (i : Station) (k : EvidenceKind) :
    (t.recordEvidence i k).context i = none ∨ (t.recordEvidence i k).context i = t.context i := by
  cases hc : (t.station i).cartridge with
  | none => exact .inr (by rw [State.recordEvidence, hc])
  | some c =>
    by_cases hauth : c.authenticated = true
    · rw [recordEvidence_of_authenticated hc hauth]
      split
      · exact .inl (toQuarantine_context ..)
      · refine .inr (context_congr ?_)
        unfold evidenceReported evidenceTested checkpointed afterNeed
        dsimp only
        (repeat' split) <;> simp
    · exact .inr (by rw [recordEvidence_of_provisional hc (Bool.eq_false_iff.mpr hauth)]; rfl)

end

section
variable {s t : State} {pre post : List Job} {j : Job} {i : Station} {x : AuthContext} {c : CartridgeRecord} {data : List Byte}

/-- A READ_ID that its context waits for ends with its bytes (R12, R63, R79). -/
theorem readId_goes (hs : up s) (hr : running s .own pre j post) (hkind : j.kind = .readId) (ht : j.target = some i) (hcls : j.cls = .auth)
    (hfollow : j.followOn = none) (hdisowned : j.disowned = false) (hx : s.context i = some x) (hstep : x.step = .read)
    (hlength : data.length = 36) {u : State}
    (hu : (if x.recheck then (s.withBus (released s.bus (pre ++ post))).recheckRead i data
      else (s.withBus (released s.bus (pre ++ post))).identifyCartridge i data) = u)
    (hdue : ∀ y, u.context i = some y → y.firstJobDue = false) : goesTo (exec (.jobTransactionEnd (.done data)) s) u := by
  have hx' : (s.withBus (released s.bus (pre ++ post))).context i = some x := hx
  have hresult : (s.withBus (released s.bus (pre ++ post))).authResult i .done data = u := by
    simp only [State.authResult, hx', hstep, State.readIdResult]
    exact hu
  refine goesTo_of_eq (exec_jobTransactionEnd hs hr (.done data)) ?_
  rw [endTransaction_of_done hr.2.2.1 (.inl hkind) (by rw [hlength, Job.readLength, hkind])]
  exact endJob_of_auth (t := s.freeBus) (queued_freeBus hr.1) rfl ht hcls hfollow hdisowned (.inl hkind) hresult hdue

theorem toQuarantine_not_due (t : State) (i : Station) (c : CartridgeRecord) (cause : QuarantineCause) (code : Nat) :
    ∀ y, (toQuarantine t i c cause code).context i = some y → y.firstJobDue = false :=
  fun y hy => absurd (hy.symm.trans (toQuarantine_context ..)) (by simp)

end

/-- Settles O49, by the kind of authentication and the check that fails first. -/
theorem identificationChecksTheTag : Obligations.IdentificationChecksTheTag := by
  intro s pre post j i x c data id capacity h hs hr hkind ht hcls hfollow hdisowned hx hstep hdue hc hlength hserial hink hcapacity hkey hfill
    hused hlatch hmark outcome ended quarantined begun bothSums known sound rightInk elsewhere slotIs
  have hgoes {u : State} := readId_goes (u := u) hs.1 hr hkind ht hcls hfollow hdisowned hx hstep hlength
  have hread : readIdentity data = id := readIdentity_eq hlength hserial hink hkey hfill hused hlatch hmark
  have hcapacity' : readCapacity data = capacity := by rw [readCapacity, beField_eq_be, hcapacity]
  have hsums : recordsGood data = true ↔ bothSums := recordsGood_iff hlength
  refine ⟨fun hlast => ?_, fun hfirst => ?_, fun hrecheck held a hheld ha => ?_⟩
  · exact goesTo_of_eq (exec_jobTransactionEnd hs.1 hr .nack) ((endTransaction_of_nack (.inl hkind)).trans
      (failedAttempt_of_noTag (s := s.freeBus) (queued_freeBus hr.1) rfl hr.2.2.1 hlast ht hfollow hcls hdisowned hkind hx hstep hc .nack))
  · have hidentify := identifyCartridge_eq (t := ended) (i := i) hc hread
    rw [hcapacity'] at hidentify
    have hsound : (recordsGood data && fieldsInRange data) = true ↔ sound := by
      rw [Bool.and_eq_true, hsums, fieldsInRange_iff hlength, ← hcapacity, ← hkey]
    let s1 := ended.setStation i { ended.station i with cartridge := some known }
    have hchecks : s1.laterChecks i id =
        if (s.station i).config.expectedInk ≠ 0 ∧ id.inkType ≠ (s.station i).config.expectedInk then some .wrongInk
        else if s.heldElsewhere i id.serial then some .duplicate
        else if s.keyState id.keyIndex = some .live then none
        else if s.keyState id.keyIndex = some .revoked then some .keyRevoked
        else some .keyAbsent := by
      rw [laterChecks_eq, heldElsewhere_congr (t := s1) (s := s) fun k hk => State.setStation_station_other _ i k _ hk,
        State.setStation_station_same]
      rfl
    have hink' : rightInk → ¬ ((s.station i).config.expectedInk ≠ 0 ∧ id.inkType ≠ (s.station i).config.expectedInk) :=
      fun hright hwrong => hright.elim hwrong.1 hwrong.2
    have helse' : ¬ elsewhere → ¬ s.heldElsewhere i id.serial = true := fun hno hyes => hno ((heldElsewhere_iff _).mp hyes)
    have hidentified (hsnd : sound) : (if x.recheck then ended.recheckRead i data else ended.identifyCartridge i data) =
        match s1.laterChecks i id with
        | some cause => toQuarantine ended i known cause (causeCode cause)
        | none => s1.enterAuthenticating i id := by
      rw [hfirst, if_neg Bool.false_ne_true]
      exact hidentify.trans (if_pos (hsound.mpr hsnd))
    have hfails (cause : QuarantineCause) (hsnd : sound) (hcheck : s1.laterChecks i id = some cause) :
        goesTo outcome (toQuarantine ended i known cause (causeCode cause)) :=
      hgoes ((hidentified hsnd).trans (by rw [hcheck])) (toQuarantine_not_due _ _ _ _ _)
    refine ⟨fun hno => ?_, fun hsnd hwrong => ?_, fun hsnd hright helse => ?_, fun hsnd hright helse habsent => ?_, fun hsnd hright helse hrev => ?_,
      fun hsnd hright helse hlive hf htrust hauth e he => ?_⟩
    · refine hgoes ?_ (toQuarantine_not_due _ _ _ _ _)
      rw [hfirst, if_neg Bool.false_ne_true]
      exact hidentify.trans (if_neg fun hyes => hno (hsound.mp hyes))
    · refine hfails .wrongInk hsnd (hchecks.trans (if_pos ?_))
      exact not_or.mp hwrong
    · refine hfails .duplicate hsnd (hchecks.trans ((if_neg (hink' hright)).trans (if_pos ?_)))
      exact (heldElsewhere_iff _).mpr helse
    · have hstate : s.keyState id.keyIndex = none ∨ s.keyState id.keyIndex = some .empty :=
        habsent.imp (fun h => keyState_of_le h) keyState_eq_some_iff.mpr
      refine hfails .keyAbsent hsnd (hchecks.trans ((if_neg (hink' hright)).trans ((if_neg (helse' helse)).trans ?_)))
      rcases hstate with h | h <;> rw [h] <;> rfl
    · refine hfails .keyRevoked hsnd (hchecks.trans ((if_neg (hink' hright)).trans ((if_neg (helse' helse)).trans ?_)))
      rw [keyState_eq_some_iff.mpr hrev]
      rfl
    · have hnone : s1.laterChecks i id = none := hchecks.trans ((if_neg (hink' hright)).trans ((if_neg (helse' helse)).trans
        (if_pos (keyState_eq_some_iff.mpr hlive))))
      have hlookup : s.departed.lookup id.serial = e := by
        rcases he with ⟨rfl, hno⟩ | ⟨d, rfl, hd, hds, honly⟩
        · exact lookup_eq_none hno
        · obtain ⟨d', hd'⟩ := lookup_isSome ⟨d, hd, hds⟩
          rw [hd', honly d' (List.mem_of_find?_eq_some hd') (by simpa using List.find?_some hd')]
      have hbegun := enterAuthenticating_eq (t := ended) (i := i) (c := c) (capacity := capacity) hx hf htrust hauth hlookup
      have hentered : (if x.recheck then ended.recheckRead i data else ended.identifyCartridge i data) = s1.enterAuthenticating i id :=
        (hidentified hsnd).trans (by rw [hnone])
      cases e with
      | none => exact hgoes (hentered.trans hbegun) (attemptBegun_not_due (x := { x with digestUsed := some id.tagUsed }) hdue _ h)
      | some d => exact hgoes (hentered.trans hbegun) (attemptBegun_not_due (x := { x with digestUsed := some id.tagUsed }) hdue _ h)
  · have hread' : ended.recheckRead i data =
        if recordsGood data && readSerial data == held.serial then
          (ended.recordIfAny i (recheckEvidence a.lastWritten (readTagUsed data))).continueRecheck i (readTagUsed data)
        else ended.enterQuarantined i .malformed := by
      have hc' : (ended.station i).cartridge = some c := hc
      simp only [State.recheckRead, hc', hheld, ha]
    have hused' : readTagUsed data = id.tagUsed := by rw [readTagUsed, beField_eq_be, hused]
    have hserial' : readSerial data = id.serial := readSerial_eq hserial
    rw [hused', hserial'] at hread'
    have hgood : (recordsGood data && id.serial == held.serial) = true ↔ bothSums ∧ id.serial = held.serial := by
      rw [Bool.and_eq_true, hsums, beq_iff_eq]
    refine ⟨fun hno => hgoes ?_ (toQuarantine_not_due _ _ _ _ _), fun hsum hsame => ⟨fun heq hf => ?_, fun hne y hy => ?_⟩⟩
    · rw [if_pos hrecheck]
      exact hread'.trans ((if_neg fun hyes => hno (hgood.mp hyes)).trans (enterQuarantined_eq (s := ended) .malformed hc))
    · have hquiet : recheckEvidence a.lastWritten id.tagUsed = none := by
        rw [recheckEvidence, heq, if_neg (lt_irrefl _), if_neg (lt_irrefl _)]
      refine hgoes ?_ (attemptBegun_not_due (x := { x with digestUsed := some id.tagUsed }) hdue ended h)
      rw [if_pos hrecheck, hread', if_pos (hgood.mpr ⟨hsum, hsame⟩), hquiet]
      exact continueRecheck_of_context (t := ended) hx hf id.tagUsed
    · have hshown : recheckEvidence a.lastWritten id.tagUsed = some (if id.tagUsed < a.lastWritten then .rollback else .conflict) := by
        rw [recheckEvidence]
        rcases lt_or_gt_of_ne hne with hlt | hlt
        · rw [if_pos hlt, if_pos hlt]
        · rw [if_neg hlt.le.not_gt, if_pos hlt, if_neg hlt.le.not_gt]
      have hrecorded : (if x.recheck then ended.recheckRead i data else ended.identifyCartridge i data) = y.continueRecheck i id.tagUsed := by
        rw [if_pos hrecheck, hread', if_pos (hgood.mpr ⟨hsum, hsame⟩), hshown, hy]
        rfl
      refine ⟨fun hgone => hgoes (hrecorded.trans (continueRecheck_of_none hgone _)) fun z hz => absurd (hgone.symm.trans hz) (by simp),
        fun z hz hf => hgoes (hrecorded.trans (continueRecheck_of_context hz hf id.tagUsed)) ?_⟩
      have hkept : z = x := by
        rcases recordEvidence_context ended i (if id.tagUsed < a.lastWritten then .rollback else .conflict) with hgone | hkept
        · exact absurd (hgone.symm.trans (hy ▸ hz)) (by simp)
        · exact Option.some.inj ((hy ▸ hz : _ = some z).symm.trans (hkept.trans hx))
      exact attemptBegun_not_due (x := { z with digestUsed := some id.tagUsed }) (hkept ▸ hdue) y h

end Sys2Proof.Laws
end

section
set_option Elab.async false
/-! PROOFS. The tally receiver (chapter 5): bits and frames, the search for alignment, positions, cycles and timers. -/

namespace Sys2Proof.Laws

open Sys2Proof.Machine Sys2Proof.Safety

/-! ## Bits, bytes and headers -/

/-- Eight bits are the bits of the byte that they spell. -/
theorem bitsOf_spelled : ∀ {l : List Bool}, l.length = 8 → bitsOf (BitVec.ofNat 8 (spelled l)) = l
  | [b0, b1, b2, b3, b4, b5, b6, b7], _ => by revert b0 b1 b2 b3 b4 b5 b6 b7; decide

theorem length_bitsOf (b : Byte) : (bitsOf b).length = 8 := by simp [bitsOf]

theorem bitsOf_injective : Function.Injective bitsOf := fun a b h => by
  refine BitVec.eq_of_getMsbD_eq fun k hk => ?_
  have hbit := congrArg (fun l => l[k]?) h
  simpa [bitsOf, hk] using hbit

/-- A byte is read from eight bits exactly where these are its bits. -/
theorem ofNat_spelled_eq_iff {l : List Bool} (h : l.length = 8) (b : Byte) : BitVec.ofNat 8 (spelled l) = b ↔ l = bitsOf b := by
  constructor
  · rintro rfl
    exact (bitsOf_spelled h).symm
  · intro hl
    apply bitsOf_injective
    rw [bitsOf_spelled h, hl]

/-- An index byte carries exactly the index whose byte it is (R84). -/
theorem readIndexByte_eq_some_iff (b : Byte) (k : Fin 8) :
    readIndexByte b = some k ↔ b = BitVec.ofNat 8 (k.val + 16 * (7 - k.val)) := by
  have hbyte : b = BitVec.ofNat 8 (k.val + 16 * (7 - k.val)) ↔ b.toNat = k.val + 16 * (7 - k.val) := by
    rw [← BitVec.toNat_inj, BitVec.toNat_ofNat]
    omega
  rw [hbyte, readIndexByte]
  split_ifs with h
  · rw [Option.some_inj, Fin.ext_iff, Fin.val_ofNat]
    omega
  · simp only [false_iff]
    omega

section
variable {bits : List Bool} {at_ : Nat}

/-- The byte at a place is that of the eight bits there. -/
theorem bitsByte_eq_iff {a rest : List Bool} (h : bits.drop at_ = a ++ rest) (ha : a.length = 8) (b : Byte) :
    bitsByte bits at_ = b ↔ a = bitsOf b := by
  rw [← ofNat_spelled_eq_iff ha, bitsByte, h, List.take_left' ha]
  rfl

/-- The marker and index tests pass exactly where a frame of that index starts (R84). -/
theorem readHeader_eq_some_iff (h : 24 ≤ (bits.drop at_).length) (k : Fin 8) :
    readHeader bits at_ = some k ↔ startsFrame (bits.drop at_) k := by
  obtain ⟨a, b, c, rest, hl, ha, hb, hc⟩ : ∃ a b c rest : List Bool, bits.drop at_ = a ++ (b ++ (c ++ rest)) ∧ a.length = 8 ∧
      b.length = 8 ∧ c.length = 8 := by
    refine ⟨(bits.drop at_).take 8, ((bits.drop at_).drop 8).take 8, (((bits.drop at_).drop 8).drop 8).take 8,
      (((bits.drop at_).drop 8).drop 8).drop 8, by simp only [List.take_append_drop], ?_, ?_, ?_⟩ <;>
    simp only [List.length_take, List.length_drop] at h ⊢ <;> omega
  have hsecond : bits.drop (at_ + 8) = b ++ (c ++ rest) := by rw [← List.drop_drop, hl, ← ha, List.drop_left]
  have hthird : bits.drop (at_ + 16) = c ++ rest := by
    rw [show at_ + 16 = at_ + 8 + 8 from rfl, ← List.drop_drop, hsecond, ← hb, List.drop_left]
  have hheader : readHeader bits at_ = some k ↔
      a = bitsOf 0xC7 ∧ b = bitsOf 0x39 ∧ c = bitsOf (BitVec.ofNat 8 (k.val + 16 * (7 - k.val))) := by
    rw [readHeader, Option.ite_none_right_eq_some, readIndexByte_eq_some_iff, bitsByte_eq_iff hl ha, bitsByte_eq_iff hsecond hb,
      bitsByte_eq_iff hthird hc, and_assoc]
  rw [hheader, hl]
  constructor
  · rintro ⟨rfl, rfl, rfl⟩
    exact ⟨rest, by simp only [List.append_assoc]⟩
  · rintro ⟨tail, htail⟩
    simp only [List.append_assoc] at htail
    obtain ⟨h1, htail⟩ := List.append_inj htail (ha.trans (length_bitsOf _).symm)
    obtain ⟨h2, htail⟩ := List.append_inj htail (hb.trans (length_bitsOf _).symm)
    exact ⟨h1, h2, (List.append_inj htail (hc.trans (length_bitsOf _).symm)).1⟩

theorem startsFrame_length {k : Fin 8} (h : startsFrame bits k) : 24 ≤ bits.length := by
  obtain ⟨rest, rfl⟩ := h
  simp only [List.length_append, length_bitsOf]
  omega

theorem readHeader_of_startsFrame {k : Fin 8} (h : startsFrame (bits.drop at_) k) : readHeader bits at_ = some k :=
  (readHeader_eq_some_iff (startsFrame_length h) k).2 h

theorem readHeader_eq_none_iff (h : 24 ≤ (bits.drop at_).length) :
    readHeader bits at_ = none ↔ ∀ k, ¬ startsFrame (bits.drop at_) k := by
  simp only [Option.eq_none_iff_forall_ne_some, ne_eq, readHeader_eq_some_iff h]

end

/-- What HUNT keeps is where the search stops (R88). -/
theorem searched_huntSkip : ∀ bits : List Bool, searched bits (huntSkip bits)
  | [] => ⟨0, le_rfl, rfl, by omega, .inl (by decide)⟩
  | b :: rest => by
    rw [huntSkip]
    split_ifs with h
    · obtain ⟨hlength, hnone⟩ := h
      obtain ⟨n, hn, hrest, hpassed, hend⟩ := searched_huntSkip rest
      refine ⟨n + 1, Nat.succ_le_succ hn, hrest, fun m hm => ?_, hend⟩
      cases m with
      | zero => exact ⟨hlength, (readHeader_eq_none_iff (at_ := 0) hlength).1 hnone⟩
      | succ m => exact hpassed m (by omega)
    · refine ⟨0, Nat.zero_le _, rfl, by omega, ?_⟩
      rcases Nat.lt_or_ge (b :: rest).length 24 with hshort | hlong
      · exact .inl hshort
      · obtain ⟨k, hk⟩ := Option.ne_none_iff_exists'.1 fun hnone => h ⟨hlong, hnone⟩
        exact .inr ⟨k, (readHeader_eq_some_iff (at_ := 0) hlong k).1 hk⟩

theorem cleared_eq_emptyBuffer : CycleBuffer.cleared = emptyBuffer := rfl

theorem counterMax_eq_counterTop : counterMax = counterTop := rfl

/-! ## The search for alignment (R84, R88 to R90, R92) -/

section
variable {s : State}

/-- A test missed in CANDIDATE or CONFIRM: the search goes on at the bit after the marker's first. -/
theorem hunt_goes {c : Instr} {bits : List Bool} (hexec : goesTo (exec c s) (s.withTally (s.tally.hunt bits))) :
    ∃ rest, searched bits rest ∧ goesTo (exec c s) (s.withTally { s.tally with aligner := .hunt, stream := rest }) :=
  ⟨huntSkip bits, searched_huntSkip bits, hexec⟩

section
variable (hs : serving s)
include hs

/-- A row of the receiver that changes nothing but its own state. -/
theorem onTally_goes {c : Instr} {f : Tally → Tally} {t : Tally} (hexec : exec c s = .next (s.onTally f)) (ht : f s.tally = t) :
    goesTo (exec c s) (s.withTally t) := by
  rw [← ht]
  exact hexec.trans (congrArg Host.Outcome.next (whenInService_of_serving hs _))

theorem exec_tlcEdge (rising tld : Bool) : goesTo (exec (.tlcEdge rising tld) s) (s.takeEdge rising tld) :=
  congrArg Host.Outcome.next (whenInService_of_serving hs _)

theorem exec_confirmTest : goesTo (exec .confirmTest s) s.confirmTest := congrArg Host.Outcome.next (whenInService_of_serving hs _)

end

theorem takeEdge_of_link (h : s.tally.source = .link) (rising tld : Bool) : s.takeEdge rising tld =
    (s.withTally (if rising then { s.tally with silenceTimer := true }.takeBit tld
      else { s.tally with silenceTimer := true })).endCondition .linkSilent := by
  simp only [State.takeEdge, h]

end

section
variable {t : Tally} {k : Fin 8}

theorem takeBit_of_off (h : t.aligner = .off) (bit : Bool) : t.takeBit bit = t := by simp only [Tally.takeBit, h]

theorem takeBit_of_hunt (h : t.aligner = .hunt) (bit : Bool) : t.takeBit bit = t.hunt (t.stream ++ [bit]) := by
  simp only [Tally.takeBit, h]

theorem takeBit_of_aligning (hoff : t.aligner ≠ .off) (hhunt : t.aligner ≠ .hunt) (bit : Bool) :
    t.takeBit bit = { t with stream := t.stream ++ [bit] } := by
  cases ha : t.aligner with
  | off => exact absurd ha hoff
  | hunt => exact absurd ha hhunt
  | candidate k | confirm k | sync k judged => simp only [Tally.takeBit, ha]

theorem huntMatch_of_startsFrame (h : t.aligner = .hunt) (hk : startsFrame t.stream k) :
    t.huntMatch = { t with aligner := .candidate k } := by
  simp only [Tally.huntMatch, h, readHeader_of_startsFrame (at_ := 0) hk, if_neg (Nat.not_lt.mpr (startsFrame_length hk))]

theorem huntMatch_of_none (h : t.aligner = .hunt) (hnone : ∀ k, ¬ startsFrame t.stream k) : t.huntMatch = t := by
  rw [Tally.huntMatch, h]
  rcases Nat.lt_or_ge t.stream.length 24 with hshort | hlong
  · exact if_pos hshort
  · simp only [(readHeader_eq_none_iff (at_ := 0) hlong).2 hnone, ite_self]

/-- The tests of CANDIDATE and CONFIRM want their 24 bits `at_` bits after the candidate's marker. -/
theorem header_place {bits : List Bool} {at_ : Nat} (h : startsFrame (bits.drop at_) k) : ¬ bits.length < at_ + 24 := by
  have hlength := startsFrame_length h
  rw [List.length_drop] at hlength
  omega

theorem readHeader_ne_some {bits : List Bool} {at_ : Nat} (hlong : at_ + 24 ≤ bits.length) (h : ¬ startsFrame (bits.drop at_) k) :
    readHeader bits at_ ≠ some k := by
  rwa [ne_eq, readHeader_eq_some_iff]
  rw [List.length_drop]
  omega

section
variable (h : t.aligner = .candidate k)
include h

theorem candidateTest_of_short (hshort : t.stream.length < 392) : t.candidateTest = t := by
  simp only [Tally.candidateTest, h]
  exact if_pos hshort

theorem candidateTest_of_next (hnext : startsFrame (t.stream.drop 368) (k + 1)) : t.candidateTest = { t with aligner := .confirm k } := by
  simp only [Tally.candidateTest, h]
  exact (if_neg (header_place hnext)).trans (if_pos (readHeader_of_startsFrame hnext))

theorem candidateTest_of_miss (hlong : 392 ≤ t.stream.length) (hmiss : ¬ startsFrame (t.stream.drop 368) (k + 1)) :
    t.candidateTest = t.hunt t.stream.tail := by
  simp only [Tally.candidateTest, h]
  exact (if_neg (Nat.not_lt.mpr hlong)).trans (if_neg (readHeader_ne_some hlong hmiss))

end
end

section
variable {s : State} {k : Fin 8} (h : s.tally.aligner = .confirm k)
include h

theorem confirmTest_of_short (hshort : s.tally.stream.length < 760) : s.confirmTest = s := by
  simp only [State.confirmTest, h]
  exact if_pos hshort

theorem confirmTest_of_next (hnext : startsFrame (s.tally.stream.drop 736) (k + 2)) : s.confirmTest =
    ((s.withTally (s.tally.enterSync (k + 2))).raise .linkSync none (k + 2).val).endCondition .linkLost := by
  simp only [State.confirmTest, h]
  exact (if_neg (header_place hnext)).trans (if_pos (readHeader_of_startsFrame hnext))

theorem confirmTest_of_miss (hlong : 760 ≤ s.tally.stream.length) (hmiss : ¬ startsFrame (s.tally.stream.drop 736) (k + 2)) :
    s.confirmTest = s.withTally (s.tally.hunt s.tally.stream.tail) := by
  simp only [State.confirmTest, h]
  exact (if_neg (Nat.not_lt.mpr hlong)).trans (if_neg (readHeader_ne_some hlong hmiss))

end

/-- SYNC begins with the frame that confirmed it: the next index is one more, and a frame of index 0 begins a cycle (R90, R93). -/
theorem enterSync_eq (t : Tally) (k : Fin 8) : t.enterSync (k + 2) =
    { t with aligner := .sync (k + 3) (some true), badRun := 0, checkRun := 0,
             buffer := if k = 6 then some emptyBuffer else none, stream := t.stream.drop 736 } := by
  have hnext : k + 2 + 1 = k + 3 := by omega
  have hfirst : (k + 2 = 0) = (k = 6) := by
    rw [eq_iff_iff]
    omega
  rw [Tally.enterSync, hnext]
  simp only [hfirst]
  rfl

/-- Settles O52: three headers of following index, each one frame length on, bring SYNC. -/
theorem alignmentNeedsThreeFrames : Obligations.AlignmentNeedsThreeFrames := by
  intro s rising tld k hs t missed
  have hedge := exec_tlcEdge hs rising tld
  refine ⟨fun hsource => ?_, fun hsource => ⟨fun hkept => ?_, fun hrising hoff hhunt => ?_, fun hrising hhunt => ?_⟩,
    fun hhunt => ⟨fun hmatch => ?_, fun hnone => ?_⟩, fun hcandidate => ⟨fun hshort => ?_, fun hnext => ?_, fun hlong hmiss => ?_⟩,
    fun hconfirm => ⟨fun hshort => ?_, fun hnext => ?_, fun hlong hmiss => ?_⟩⟩
  · exact goesTo_of_eq hedge (by simp only [State.takeEdge, show s.tally.source = .host from hsource])
  · refine goesTo_of_eq hedge ((takeEdge_of_link hsource rising tld).trans ?_)
    rcases hkept with hfalling | hoff
    · rw [hfalling]
      rfl
    · rw [takeBit_of_off (t := { s.tally with silenceTimer := true }) hoff, ite_self]
  · refine goesTo_of_eq hedge ((takeEdge_of_link hsource rising tld).trans ?_)
    rw [hrising, if_pos rfl, takeBit_of_aligning (t := { s.tally with silenceTimer := true }) hoff hhunt]
  · refine ⟨huntSkip (t.stream ++ [tld]), searched_huntSkip _, goesTo_of_eq hedge ((takeEdge_of_link hsource rising tld).trans ?_)⟩
    rw [hrising, if_pos rfl, takeBit_of_hunt (t := { s.tally with silenceTimer := true }) hhunt, Tally.hunt, ← hhunt]
  · exact onTally_goes hs rfl (huntMatch_of_startsFrame hhunt hmatch)
  · exact onTally_goes hs rfl (huntMatch_of_none hhunt hnone)
  · exact onTally_goes hs rfl (candidateTest_of_short hcandidate hshort)
  · exact onTally_goes hs rfl (candidateTest_of_next hcandidate hnext)
  · exact hunt_goes (onTally_goes hs rfl (candidateTest_of_miss hcandidate hlong hmiss))
  · exact goesTo_of_eq (exec_confirmTest hs) (confirmTest_of_short hconfirm hshort)
  · exact goesTo_of_eq (exec_confirmTest hs) ((confirmTest_of_next hconfirm hnext).trans (by rw [enterSync_eq]))
  · exact hunt_goes (goesTo_of_eq (exec_confirmTest hs) (confirmTest_of_miss hconfirm hlong hmiss))

end Sys2Proof.Laws
end

section
set_option Elab.async false
/-! PROOFS. The tally receiver (chapter 5): positions judged and taken. -/

namespace Sys2Proof.Laws

open Sys2Proof.Machine Sys2Proof.Safety

/-! ## Judging positions (R91, R93, R100) -/

/-- A counter goes up by one and stays at its maximum (R100). -/
theorem countUp_eq (width n : Nat) : countUp width n = min (counterTop width) (n + 1) := by
  rw [countUp, counterMax_eq_counterTop, satAdd_eq_min]

theorem arrivesAtMax_iff (width n : Nat) :
    arrivesAtMax width n = true ↔ n < counterTop width ∧ min (counterTop width) (n + 1) = counterTop width := by
  rw [arrivesAtMax, Bool.and_eq_true, decide_eq_true_iff, beq_iff_eq, countUp_eq, counterMax_eq_counterTop]

/-- A state in which LINK_ERRORS is raised where a counter arrives at its maximum (R100). -/
abbrev reportsArrival (width n value : Nat) (x : State) : State :=
  if n < counterTop width ∧ min (counterTop width) (n + 1) = counterTop width then x.raiseCondition .linkErrors value else x

theorem countMarkerError_eq (s : State) : s.countMarkerError = reportsArrival s.tally.config.counterWidth s.tally.markerErrors 1
    (s.withTally { s.tally with markerErrors := min (counterTop s.tally.config.counterWidth) (s.tally.markerErrors + 1) }) := by
  simp only [State.countMarkerError, arrivesAtMax_iff, countUp_eq]

theorem countCheckError_eq (s : State) : s.countCheckError = reportsArrival s.tally.config.counterWidth s.tally.checkErrors 2
    (s.withTally { s.tally with checkErrors := min (counterTop s.tally.config.counterWidth) (s.tally.checkErrors + 1) }) := by
  simp only [State.countCheckError, arrivesAtMax_iff, countUp_eq]

theorem raiseCondition_withTally (s : State) (c : Condition) (v : Nat) (t : Tally) :
    (s.raiseCondition c v).withTally t = (s.withTally t).raiseCondition c v := rfl

/-- A report of LINK_ERRORS does not touch the receiver. -/
theorem reportsArrival_withTally (width n value : Nat) (s : State) (t : Tally) :
    (reportsArrival width n value s).withTally t = reportsArrival width n value (s.withTally t) := by
  simp only [reportsArrival, apply_ite (State.withTally · t), raiseCondition_withTally]

theorem reportsArrival_tally (width n value : Nat) (s : State) : (reportsArrival width n value s).tally = s.tally := by
  simp only [reportsArrival, apply_ite State.tally, State.raiseCondition_frame, ite_self]

theorem beginCollecting_eq (t : Tally) (e : Fin 8) :
    t.beginCollecting e = { t with buffer := if t.buffer = none ∧ e = 0 then some emptyBuffer else t.buffer } := by
  rw [Tally.beginCollecting, cleared_eq_emptyBuffer]
  split_ifs <;> rfl

section
variable {s : State} {e : Fin 8}

theorem judgeFrame_eq (ha : s.tally.aligner = .sync e none) (hlong : 24 ≤ s.tally.stream.length)
    (hopen : ∀ b, s.tally.buffer = some b → b.positions ≠ 8) :
    s.judgeFrame = if readHeader s.tally.stream 0 = some e
      then s.withTally ((s.tally.beginCollecting e).judgeGood e) else (s.withTally (s.tally.beginCollecting e)).judgeBad e := by
  have hcomplete : s.tally.cycleComplete = false := by
    rw [Tally.cycleComplete, Option.any_eq_false_iff_get]
    intro h
    simpa using hopen _ (Option.some_get h).symm
  simp only [State.judgeFrame, ha, hcomplete, Nat.not_lt.mpr hlong, decide_false, Bool.or_false, Bool.false_eq_true, if_false]
  rfl

/-- A bad position below the loss threshold (R91). -/
theorem judgeBad_of_kept (h : s.tally.badRun + 1 < s.tally.config.lossThreshold) : s.judgeBad e =
    reportsArrival s.tally.config.counterWidth s.tally.markerErrors 1 (s.withTally { s.tally.judgeBad e with
      markerErrors := min (counterTop s.tally.config.counterWidth) (s.tally.markerErrors + 1) }) := by
  have hcount := countMarkerError_eq (s.withTally (s.tally.judgeBad e))
  have hrun : (s.withTally (s.tally.judgeBad e)).countMarkerError.tally.badRun <
      (s.withTally (s.tally.judgeBad e)).countMarkerError.tally.config.lossThreshold := by
    rw [hcount, reportsArrival_tally]
    exact h
  exact (if_pos hrun).trans hcount

/-- A bad position at the loss threshold loses alignment (R91). -/
theorem judgeBad_of_lost (h : s.tally.config.lossThreshold ≤ s.tally.badRun + 1) : s.judgeBad e =
    (reportsArrival s.tally.config.counterWidth s.tally.markerErrors 1 (s.withTally { s.tally with
      aligner := .hunt, badRun := s.tally.badRun + 1, buffer := none, stream := huntSkip (s.tally.stream.drop 24)
      markerErrors := min (counterTop s.tally.config.counterWidth) (s.tally.markerErrors + 1) })).raiseCondition .linkLost 1 := by
  have hcount := countMarkerError_eq (s.withTally (s.tally.judgeBad e))
  have hrun : ¬ (s.withTally (s.tally.judgeBad e)).countMarkerError.tally.badRun <
      (s.withTally (s.tally.judgeBad e)).countMarkerError.tally.config.lossThreshold := by
    rw [hcount, reportsArrival_tally]
    exact Nat.not_lt.mpr h
  refine (if_neg hrun).trans ?_
  rw [hcount, reportsArrival_tally, reportsArrival_withTally]
  rfl

end

/-- Settles O53: the position is judged by the header it begins with. -/
theorem framePositionsAreJudged : Obligations.FramePositionsAreJudged := by
  intro s e hs ha hlong hopen t collecting top errors counted
  have hexec : goesTo (exec .frameJudged s) s.judgeFrame := congrArg Host.Outcome.next (whenInService_of_serving hs _)
  have hheader := readHeader_eq_some_iff (bits := t.stream) (at_ := 0) hlong e
  have hjudge := judgeFrame_eq ha hlong hopen
  rw [beginCollecting_eq] at hjudge
  refine ⟨fun hgood => ?_, fun hbad hkept => ?_, fun hbad hlost => ⟨huntSkip (t.stream.drop 24), searched_huntSkip _, ?_⟩⟩
  · exact goesTo_of_eq hexec (hjudge.trans (if_pos (hheader.2 hgood)))
  · exact goesTo_of_eq hexec ((hjudge.trans (if_neg (hbad ∘ hheader.1))).trans (judgeBad_of_kept hkept))
  · exact goesTo_of_eq hexec ((hjudge.trans (if_neg (hbad ∘ hheader.1))).trans (judgeBad_of_lost hlost))

/-! ## Positions taken (R85, R86, R93) -/

theorem bitsBytes_eq_frameBytes (bits : List Bool) (first n : Nat) : bitsBytes bits first n = frameBytes bits first n := by
  induction n generalizing first with
  | zero => rfl
  | succ n ih =>
    rw [bitsBytes, ih, frameBytes, frameBytes, List.range_succ_eq_map, List.map_cons, List.map_map]
    refine congrArg₂ _ rfl (List.map_congr_left fun k _ => ?_)
    rw [Function.comp_apply, Nat.succ_eq_add_one, show first + 1 + k = first + (k + 1) by omega]

theorem spelled_concat (l : List Bool) (x : Bool) : spelled (l ++ [x]) = 2 * spelled l + x.toNat := List.foldl_append ..

theorem spelled_append (a b : List Bool) : spelled (a ++ b) = spelled a * 2 ^ b.length + spelled b := by
  induction b using List.reverseRecOn with
  | nil => simp [spelled]
  | append_singleton b x ih =>
    rw [← List.append_assoc, spelled_concat, ih, spelled_concat, List.length_append, List.length_singleton, pow_succ]
    ring

theorem spelled_lt (bits : List Bool) : spelled bits < 2 ^ bits.length := by
  induction bits using List.reverseRecOn with
  | nil => decide
  | append_singleton l x ih =>
    have hx := Bool.toNat_le x
    rw [spelled_concat, List.length_append, List.length_singleton, pow_succ]
    omega

theorem spelled_take_lt (bits : List Bool) (n : Nat) : spelled (bits.take n) < 2 ^ n :=
  (spelled_lt _).trans_le (Nat.pow_le_pow_right (by decide) (List.length_take_le n bits))

/-- A byte of a run of bits, as a number. -/
theorem bitsByte_toNat (bits : List Bool) (place : Nat) : (bitsByte bits place).toNat = spelled ((bits.drop place).take 8) :=
  (BitVec.toNat_ofNat ..).trans (Nat.mod_eq_of_lt (spelled_take_lt _ 8))

/-- Two bytes of a run of bits spell its 16 bits. -/
theorem beNumber_bitsBytes_two {bits : List Bool} {place : Nat} (h : 8 * place + 16 ≤ bits.length) :
    beNumber (bitsBytes bits place 2) = spelled ((bits.drop (8 * place)).take 16) := by
  have hsplit : (bits.drop (8 * place)).take 16 = (bits.drop (8 * place)).take 8 ++ (bits.drop (8 * (place + 1))).take 8 := by
    rw [show (16 : Nat) = 8 + 8 from rfl, List.take_add, List.drop_drop]
    rfl
  have hlength : ((bits.drop (8 * (place + 1))).take 8).length = 8 := by
    rw [List.length_take, List.length_drop]
    omega
  have hbytes : beNumber (bitsBytes bits place 2) = 256 * (bitsByte bits (8 * place)).toNat + (bitsByte bits (8 * (place + 1))).toNat := by
    simp [bitsBytes, beNumber]
  rw [hbytes, bitsByte_toNat, bitsByte_toNat, hsplit, spelled_append, hlength, Nat.mul_comm]
  rfl

section
variable {t : Tally} {e : Fin 8} {good : Bool} (ha : t.aligner = .sync e (some good))
include ha

theorem completePosition_of_short (h : t.stream.length < 368) : t.completePosition = t := by
  simp only [Tally.completePosition, ha]
  exact if_pos h

theorem completePosition_of_long (h : 368 ≤ t.stream.length) : t.completePosition = { t with
    aligner := .sync e none, buffer := t.buffer.map (fun b => b.complete t.stream (e - 1) good), stream := t.stream.drop 368 } := by
  simp only [Tally.completePosition, ha]
  exact if_neg (Nat.not_lt.mpr h)

end

/-- A good frame's counts and temperature (R85). -/
theorem takeFrame_eq (b : CycleBuffer) (bits : List Bool) (index : Fin 8) : b.takeFrame bits index = { b with
    sums := perStation (fun i => ⟨(b.sums[i]).small + frameCount bits i 0, (b.sums[i]).medium + frameCount bits i 1,
      (b.sums[i]).large + frameCount bits i 2, (b.sums[i]).service + frameCount bits i 3⟩)
    temps := b.temps.set index (some (let byte := spelled ((bits.drop 344).take 8)
      if byte = 255 then .sensorFault else .degrees (min 200 byte))) } := by
  have htemp : readTemp (bitsByte bits (8 * 43)) = let byte := spelled ((bits.drop 344).take 8)
      if byte = 255 then .sensorFault else .degrees (min 200 byte) := by
    have hread := readTemp_eq [bitsByte bits (8 * 43)] 0
    rwa [← byteAt_toNat_eq_le, show byteAt [bitsByte bits (8 * 43)] 0 = bitsByte bits (8 * 43) from rfl, bitsByte_toNat] at hread
  rw [CycleBuffer.takeFrame, htemp]
  rfl

/-- Settles O54: what the complete position's bits add to the cycle buffer. -/
theorem completePositionsAreTaken : Obligations.CompletePositionsAreTaken := by
  intro s e good hs ha t after
  refine ⟨fun hshort => ?_, fun hlong hnone => ?_, fun b hlong hbuffer => ?_⟩
  · exact onTally_goes hs rfl (completePosition_of_short ha hshort)
  · refine goesTo_of_eq (onTally_goes hs rfl (completePosition_of_long ha hlong)) ?_
    rw [show s.tally.buffer = none from hnone]
    rfl
  · have hgoes := onTally_goes (c := .framePositionComplete) hs rfl (completePosition_of_long ha hlong)
    rw [show s.tally.buffer = some b from hbuffer] at hgoes
    have hcheck := beNumber_bitsBytes_two (bits := t.stream) (place := 44) (by omega)
    refine ⟨b.complete t.stream (e - 1) good, hgoes, ?_⟩
    have hcarried : (BitVec.ofNat 16 (beNumber (bitsBytes t.stream 44 2))).toNat = spelled ((t.stream.drop 352).take 16) := by
      rw [hcheck, BitVec.toNat_ofNat]
      exact Nat.mod_eq_of_lt (spelled_take_lt _ 16)
    cases good with
    | false =>
      exact ⟨rfl, rfl, congrArg (crcExtend b.crc) (bitsBytes_eq_frameBytes ..), hcarried, nofun, fun _ => ⟨rfl, rfl⟩⟩
    | true =>
      rw [CycleBuffer.complete, if_pos rfl, takeFrame_eq]
      exact ⟨rfl, rfl, congrArg (crcExtend b.crc) (bitsBytes_eq_frameBytes ..), hcarried, fun _ => ⟨fun i => perStation_getElem _ i, rfl⟩, nofun⟩

end Sys2Proof.Laws
end

section
set_option Elab.async false
/-! PROOFS. The tally receiver (chapter 5): cycles committed and estimated, and the two timers. -/

namespace Sys2Proof.Laws

open Sys2Proof.Machine Sys2Proof.Safety

/-! ## What the receiver keeps of the stream beside its counters -/

/-- The state with another place in the stream: aligner, cycle buffer and kept bits. -/
def alignedAt (s : State) (a : Aligner) (buffer : Option CycleBuffer) (bits : List Bool) : State :=
  s.withTally { s.tally with aligner := a, buffer, stream := bits }

section
variable (s : State) (a : Aligner) (buffer : Option CycleBuffer) (bits : List Bool)

theorem endCondition_withTally (c : Condition) (t : Tally) : (s.endCondition c).withTally t = (s.withTally t).endCondition c := by
  rw [State.endCondition, State.endCondition, apply_ite (State.withTally · t)]
  rfl

theorem alignedAt_reportsArrival (width n value : Nat) : alignedAt (reportsArrival width n value s) a buffer bits =
    reportsArrival width n value (alignedAt s a buffer bits) := by
  rw [alignedAt, reportsArrival_withTally, reportsArrival_tally]
  rfl

/-- An estimate does not look at the stream. -/
theorem alignedAt_attemptEstimate : alignedAt s.attemptEstimate a buffer bits = (alignedAt s a buffer bits).attemptEstimate := by
  simp only [State.attemptEstimate, handOn_eq, apply_ite (alignedAt · a buffer bits)]
  rfl

/-- An actual commit does not look at the stream. -/
theorem alignedAt_commitActual (c : CommittedCycle) :
    alignedAt (s.commitActual c) a buffer bits = (alignedAt s a buffer bits).commitActual c := by
  simp only [alignedAt, State.commitActual, handOn_eq, endCondition_withTally, State.endCondition_frame]
  rfl

/-- An estimate leaves the stream, and the run of failed checks. -/
theorem attemptEstimate_keeps : s.attemptEstimate.tally.aligner = s.tally.aligner ∧
    s.attemptEstimate.tally.stream = s.tally.stream ∧ s.attemptEstimate.tally.checkRun = s.tally.checkRun := by
  rw [State.attemptEstimate, handOn_eq]
  split_ifs <;> exact ⟨rfl, rfl, rfl⟩

theorem commitActual_keeps (c : CommittedCycle) : (s.commitActual c).tally.aligner = s.tally.aligner ∧
    (s.commitActual c).tally.stream = s.tally.stream ∧ (s.commitActual c).tally.checkRun = s.tally.checkRun := by
  simp only [State.commitActual, handOn_eq, State.endCondition_frame]
  exact ⟨rfl, rfl, rfl⟩

end

/-! ## Commits and estimates (R95, R97, R98) -/

/-- The two states have the same receiver configuration, last-good copy and estimate counts. -/
def SameEstimates (s x : State) : Prop :=
  x.meter = s.meter ∧ x.tally.source = s.tally.source ∧ x.tally.config = s.tally.config ∧ x.tally.lastGood = s.tally.lastGood ∧
    x.tally.estimateRun = s.tally.estimateRun ∧ x.tally.estimatedTotal = s.tally.estimatedTotal

theorem sameEstimates_withTally {s : State} {t : Tally} (hsource : t.source = s.tally.source) (hconfig : t.config = s.tally.config)
    (hgood : t.lastGood = s.tally.lastGood) (hrun : t.estimateRun = s.tally.estimateRun)
    (htotal : t.estimatedTotal = s.tally.estimatedTotal) : SameEstimates s (s.withTally t) :=
  ⟨rfl, hsource, hconfig, hgood, hrun, htotal⟩

theorem sameEstimates_reportsArrival {s x : State} (h : SameEstimates s x) (width n value : Nat) :
    SameEstimates s (reportsArrival width n value x) := by
  rw [reportsArrival]
  split_ifs
  · simpa only [SameEstimates, State.raiseCondition_frame] using h
  · exact h

theorem restartCycleTimer_of_link {t : Tally} (h : t.source = .link) :
    t.restartCycleTimer = { t with cycleTimer := some (t.config.nominalPeriod * 3 / 2) } := by
  simp only [Tally.restartCycleTimer, h]
  rfl

/-- An estimate attempted in `x`, by what the receiver held in `s` (R98). -/
def estimatedFrom (s x : State) : State :=
  if s.tally.estimateRun < s.tally.config.holdLimit
    then (x.withMeter (handedOn s.meter ⟨s.tally.lastGood, none⟩)).withTally { x.tally with
      estimateRun := s.tally.estimateRun + 1, estimatedTotal := min 4294967295 (s.tally.estimatedTotal + 1)
      cycleTimer := some (s.tally.config.nominalPeriod * 3 / 2) }
    else x.raiseCondition .meterGap s.tally.estimateRun

theorem estimatedFrom_congr {s x : State} (h : SameEstimates s x) : estimatedFrom x x = estimatedFrom s x := by
  obtain ⟨hmeter, -, hconfig, hgood, hrun, htotal⟩ := h
  simp only [estimatedFrom, hmeter, hgood, hrun, htotal]
  rw [hconfig]

section
variable {s : State} (hsource : s.tally.source = .link)
include hsource

theorem attemptEstimate_self : s.attemptEstimate = estimatedFrom s s := by
  have hafter : s.tally.afterEstimate = { s.tally with
      estimateRun := s.tally.estimateRun + 1
      estimatedTotal := min 4294967295 (s.tally.estimatedTotal + 1)
      cycleTimer := some (s.tally.config.nominalPeriod * 3 / 2) } := by
    rw [Tally.afterEstimate, satAdd_eq_min]
    exact restartCycleTimer_of_link hsource
  simp only [State.attemptEstimate, handOn_eq, State.withMeter_tally, hafter]
  rfl

theorem attemptEstimate_eq {x : State} (h : SameEstimates s x) : x.attemptEstimate = estimatedFrom s x := by
  have hlink : x.tally.source = .link := by
    obtain ⟨-, hsame, -⟩ := h
    exact hsame.trans hsource
  exact (attemptEstimate_self hlink).trans (estimatedFrom_congr h)

theorem commitActual_eq (c : CommittedCycle) : s.commitActual c =
    ((s.withMeter (handedOn s.meter c)).withTally { s.tally with
      lastGood := c.counts, estimateRun := 0, cycleTimer := some (s.tally.config.nominalPeriod * 3 / 2) }).endCondition .meterGap := by
  rw [State.commitActual, handOn_eq, State.withMeter_tally, Tally.afterActual,
    restartCycleTimer_of_link (t := { s.tally with lastGood := c.counts, estimateRun := 0 }) hsource]

end

/-- A sound cycle's temperatures are those of its frames (R95). -/
theorem cycle_eq {b : CycleBuffer} {temps : Vector TempReading 8} (h : ∀ i : Station, b.temps[i] = some temps[i]) :
    b.cycle = ⟨b.sums, some temps⟩ := by
  rw [CycleBuffer.cycle]
  refine congrArg (CommittedCycle.mk b.sums ∘ some) (Vector.ext fun i hi => ?_)
  rw [Vector.getElem_map, show b.temps[i] = some temps[i] from h ⟨i, hi⟩, Option.getD_some]

/-! ## The end of a cycle (R94) -/

section
variable {s : State}

theorem afterCycle_of_kept (h : s.tally.checkRun < 4) :
    s.afterCycle = alignedAt s s.tally.aligner (some emptyBuffer) s.tally.stream := if_neg (Nat.not_le.mpr h)

theorem afterCycle_of_lost (h : 4 ≤ s.tally.checkRun) :
    s.afterCycle = (alignedAt s .hunt none (huntSkip s.tally.stream)).raiseCondition .linkLost 2 := if_pos h

theorem noteCheck_of_bad : s.noteCheck false =
    reportsArrival s.tally.config.counterWidth s.tally.checkErrors 2 (s.withTally { s.tally with
      checkRun := s.tally.checkRun + 1
      checkErrors := min (counterTop s.tally.config.counterWidth) (s.tally.checkErrors + 1) }) :=
  countCheckError_eq (s.withTally { s.tally with checkRun := s.tally.checkRun + 1 })

variable {b : CycleBuffer}

/-- A failed check is counted before the decision. -/
theorem decided_of_bad_check (hcheck : b.crc ≠ b.carried) :
    (s.noteCheck (b.crc == b.carried)).decideCycle b (b.crc == b.carried) = (s.noteCheck false).attemptEstimate := by
  rw [State.decideCycle, beq_false_of_ne hcheck]
  rfl

/-- What a failed check leaves, at another place in the stream. -/
theorem alignedAt_noteCheck_of_bad (a : Aligner) (buffer : Option CycleBuffer) (bits : List Bool) :
    alignedAt (s.noteCheck false) a buffer bits =
      reportsArrival s.tally.config.counterWidth s.tally.checkErrors 2 (s.withTally { s.tally with
        aligner := a, buffer, stream := bits, checkRun := s.tally.checkRun + 1
        checkErrors := min (counterTop s.tally.config.counterWidth) (s.tally.checkErrors + 1) }) := by
  rw [noteCheck_of_bad, alignedAt_reportsArrival]
  rfl

theorem noteCheck_of_bad_keeps : (s.noteCheck false).tally.aligner = s.tally.aligner ∧
    (s.noteCheck false).tally.stream = s.tally.stream ∧ (s.noteCheck false).tally.checkRun = s.tally.checkRun + 1 := by
  rw [noteCheck_of_bad, reportsArrival_tally]
  exact ⟨rfl, rfl, rfl⟩

variable (hbuffer : s.tally.buffer = some b) (h8 : b.positions = 8)
include hbuffer h8

theorem endCycle_eq : s.endCycle = ((s.noteCheck (b.crc == b.carried)).decideCycle b (b.crc == b.carried)).afterCycle := by
  simp only [State.endCycle, hbuffer, h8, if_true]

theorem endCycle_of_sound (hcheck : b.crc = b.carried) (hsound : b.failed = false) :
    s.endCycle = (s.withTally { s.tally with checkRun := 0, buffer := some emptyBuffer }).commitActual b.cycle := by
  have hkeeps := commitActual_keeps (s.withTally { s.tally with checkRun := 0 }) b.cycle
  obtain ⟨haligner, hstream, hrun⟩ := hkeeps
  have hdecided : (s.noteCheck (b.crc == b.carried)).decideCycle b (b.crc == b.carried) =
      (s.withTally { s.tally with checkRun := 0 }).commitActual b.cycle := by
    rw [State.decideCycle, hcheck, beq_self_eq_true, hsound]
    rfl
  rw [endCycle_eq hbuffer h8, hdecided, afterCycle_of_kept (hrun ▸ Nat.zero_lt_succ 3), haligner, hstream, alignedAt_commitActual]
  rfl

theorem endCycle_of_failed (hcheck : b.crc = b.carried) (hfailed : b.failed = true) :
    s.endCycle = (s.withTally { s.tally with checkRun := 0, buffer := some emptyBuffer }).attemptEstimate := by
  obtain ⟨haligner, hstream, hrun⟩ := attemptEstimate_keeps (s.withTally { s.tally with checkRun := 0 })
  have hdecided : (s.noteCheck (b.crc == b.carried)).decideCycle b (b.crc == b.carried) =
      (s.withTally { s.tally with checkRun := 0 }).attemptEstimate := by
    rw [State.decideCycle, hcheck, beq_self_eq_true, hfailed]
    rfl
  rw [endCycle_eq hbuffer h8, hdecided, afterCycle_of_kept (hrun ▸ Nat.zero_lt_succ 3), haligner, hstream, alignedAt_attemptEstimate]
  rfl

theorem endCycle_of_bad_check (hcheck : b.crc ≠ b.carried) (hrun : s.tally.checkRun + 1 < 4) : s.endCycle =
    (alignedAt (s.noteCheck false) s.tally.aligner (some emptyBuffer) s.tally.stream).attemptEstimate := by
  obtain ⟨haligner, hstream, hcount⟩ := attemptEstimate_keeps (s.noteCheck false)
  obtain ⟨haligner', hstream', hcount'⟩ := noteCheck_of_bad_keeps (s := s)
  rw [endCycle_eq hbuffer h8, decided_of_bad_check hcheck, afterCycle_of_kept (by rwa [hcount, hcount']), haligner, haligner',
    hstream, hstream', alignedAt_attemptEstimate]

theorem endCycle_of_lost (hcheck : b.crc ≠ b.carried) (hrun : 4 ≤ s.tally.checkRun + 1) : s.endCycle =
    (alignedAt (s.noteCheck false) .hunt none (huntSkip s.tally.stream)).attemptEstimate.raiseCondition .linkLost 2 := by
  obtain ⟨-, hstream, hcount⟩ := attemptEstimate_keeps (s.noteCheck false)
  obtain ⟨-, hstream', hcount'⟩ := noteCheck_of_bad_keeps (s := s)
  rw [endCycle_eq hbuffer h8, decided_of_bad_check hcheck, afterCycle_of_lost (by rwa [hcount, hcount']), hstream, hstream',
    alignedAt_attemptEstimate]

end

/-! ## The timers (R92, R97) -/

/-- A restart of the timer after an estimate outside SYNC: the timer stands at its period in either case (R97). -/
theorem cycleTimerExpires_of_aligning {s : State} (hsource : s.tally.source = .link) (htimer : s.tally.cycleTimer ≠ none)
    (ha : s.tally.aligner = .hunt ∨ ∃ k, s.tally.aligner = .candidate k ∨ s.tally.aligner = .confirm k) :
    s.cycleTimerExpires = (estimatedFrom s s).withTally
      { (estimatedFrom s s).tally with cycleTimer := some (s.tally.config.nominalPeriod * 3 / 2) } := by
  have hexpires : s.cycleTimerExpires = s.attemptEstimate.withTally s.attemptEstimate.tally.restartCycleTimer := by
    obtain ⟨n, hn⟩ := Option.ne_none_iff_exists'.1 htimer
    obtain ha | ⟨k, ha | ha⟩ := ha <;> simp only [State.cycleTimerExpires, hn, ha]
  have hkept : (estimatedFrom s s).tally.source = .link ∧ (estimatedFrom s s).tally.config = s.tally.config := by
    rw [estimatedFrom]
    split_ifs <;> exact ⟨hsource, rfl⟩
  rw [hexpires, attemptEstimate_self hsource, restartCycleTimer_of_link hkept.1, ← hkept.2]

theorem cycleTimerExpires_of_sync {s : State} (hsource : s.tally.source = .link) (htimer : s.tally.cycleTimer ≠ none) {e : Fin 8}
    {judged : Option Bool} (ha : s.tally.aligner = .sync e judged) :
    s.cycleTimerExpires = s.withTally { s.tally with cycleTimer := some (s.tally.config.nominalPeriod * 3 / 2) } := by
  obtain ⟨n, hn⟩ := Option.ne_none_iff_exists'.1 htimer
  simp only [State.cycleTimerExpires, hn, ha, restartCycleTimer_of_link hsource]

/-- Settles O55: the check and the bad frames decide between commit and estimate, the hold limit between estimate and gap. -/
theorem cyclesAreCommittedOrEstimated : Obligations.CyclesAreCommittedOrEstimated := by
  intro s hs t timer estimated top errors failed
  have hend : goesTo (exec .cycleEnd s) s.endCycle := congrArg Host.Outcome.next (whenInService_of_serving hs _)
  have htimer : goesTo (exec .cycleTimerExpiry s) s.cycleTimerExpires := congrArg Host.Outcome.next (whenInService_of_serving hs _)
  have hsilence : goesTo (exec .silenceTimerExpiry s) s.silenceExpires := congrArg Host.Outcome.next (whenInService_of_serving hs _)
  refine ⟨fun b hsource hbuffer => ⟨fun h8 => ?_, fun h8 => ⟨fun hcheck hsound temps htemps => ?_, fun hcheck hfailed => ?_,
    fun hcheck hrun => ?_, fun hcheck hrun => ⟨huntSkip t.stream, searched_huntSkip _, ?_⟩⟩⟩, fun hnone => ?_, fun hnone => ?_,
    fun hsource hrunning => ⟨fun e judged ha => ?_, fun ha => ⟨fun hrun => ?_, fun hrun => ?_⟩⟩, fun hon => ?_, fun hoff => ?_⟩
  · exact goesTo_of_eq hend (by simp only [State.endCycle, show s.tally.buffer = some b from hbuffer, if_neg h8])
  · refine goesTo_of_eq hend ((endCycle_of_sound hbuffer h8 hcheck hsound).trans ?_)
    rw [commitActual_eq (s := s.withTally { s.tally with checkRun := 0, buffer := some emptyBuffer }) hsource, cycle_eq htemps]
    rfl
  · exact goesTo_of_eq hend ((endCycle_of_failed hbuffer h8 hcheck hfailed).trans
      (attemptEstimate_eq hsource ⟨rfl, rfl, rfl, rfl, rfl, rfl⟩))
  · refine goesTo_of_eq hend ((endCycle_of_bad_check hbuffer h8 hcheck hrun).trans ?_)
    rw [alignedAt_noteCheck_of_bad]
    refine attemptEstimate_eq hsource (sameEstimates_reportsArrival ?_ _ _ _)
    exact sameEstimates_withTally rfl rfl rfl rfl rfl
  · refine goesTo_of_eq hend ((endCycle_of_lost hbuffer h8 hcheck hrun).trans (congrArg (State.raiseCondition · .linkLost 2) ?_))
    rw [alignedAt_noteCheck_of_bad]
    refine attemptEstimate_eq hsource (sameEstimates_reportsArrival ?_ _ _ _)
    exact sameEstimates_withTally rfl rfl rfl rfl rfl
  · exact goesTo_of_eq hend (by simp only [State.endCycle, show s.tally.buffer = none from hnone])
  · exact goesTo_of_eq htimer (by simp only [State.cycleTimerExpires, show s.tally.cycleTimer = none from hnone])
  · exact goesTo_of_eq htimer (cycleTimerExpires_of_sync hsource hrunning ha)
  · refine goesTo_of_eq htimer ((cycleTimerExpires_of_aligning hsource hrunning ha).trans ?_)
    rw [estimatedFrom, if_pos (show s.tally.estimateRun < s.tally.config.holdLimit from hrun)]
    rfl
  · refine goesTo_of_eq htimer ((cycleTimerExpires_of_aligning hsource hrunning ha).trans ?_)
    rw [estimatedFrom, if_neg (show ¬ s.tally.estimateRun < s.tally.config.holdLimit from Nat.not_lt.mpr hrun)]
    rfl
  · exact goesTo_of_eq hsilence (if_pos hon)
  · exact goesTo_of_eq hsilence (if_neg (ne_true_of_eq_false hoff))

end Sys2Proof.Laws
end

section
set_option Elab.async false
/-! PROOFS. The metering unit (chapter 6): one station's computation in closed form, and the eight of a cycle. -/

namespace Sys2Proof.Laws

open Sys2Proof.Machine Sys2Proof.Safety

/-! ## The band of a temperature (R113) -/

/-- The band whose lower threshold a temperature reaches. -/
def reachedBand (p : PartConfig) (d : Nat) : Nat :=
  if p.t4 ≤ d then 4 else if p.t3 ≤ d then 3 else if p.t2 ≤ d then 2 else if p.t1 ≤ d then 1 else 0

section
variable {p : PartConfig} (h12 : p.t1 < p.t2) (h23 : p.t2 < p.t3) (h34 : p.t3 < p.t4)

theorem reachedBand_le (p : PartConfig) (d : Nat) : reachedBand p d ≤ 4 := by
  unfold reachedBand
  split_ifs <;> decide

include h12 h23 h34

/-- A threshold is reached exactly where it lies below the reached band. -/
theorem threshold_le_iff {n : Nat} (hn : n < 4) (d : Nat) : p.threshold n ≤ d ↔ n < reachedBand p d := by
  unfold reachedBand
  interval_cases n <;> simp only [PartConfig.threshold] <;> split_ifs <;> omega

theorem reachedBand_mono {d e : Nat} (h : d ≤ e) : reachedBand p d ≤ reachedBand p e := by
  unfold reachedBand
  split_ifs <;> omega

theorem riseOnce_val (d : Nat) (b : Fin 5) : (p.riseOnce d b).val = max b.val (min (reachedBand p d) (b.val + 1)) := by
  have hle := reachedBand_le p d
  rw [PartConfig.riseOnce]
  by_cases hb : b.val < 4
  · simp only [hb, true_and, threshold_le_iff h12 h23 h34 hb, apply_ite Fin.val]
    rw [Fin.val_add_one_of_lt' (by omega)]
    split_ifs <;> omega
  · rw [if_neg (by simp [hb])]
    omega

theorem fallOnce_val (d : Nat) (b : Fin 5) : (p.fallOnce d b).val = min b.val (max (reachedBand p (d + 2)) (b.val - 1)) := by
  rw [PartConfig.fallOnce]
  by_cases hb : 0 < b.val
  · have hthreshold := threshold_le_iff h12 h23 h34 (n := b.val - 1) (by omega) (d + 2)
    have hbelow : d + 2 < p.threshold (b.val - 1) ↔ reachedBand p (d + 2) < b.val := by omega
    simp only [hb, true_and, hbelow, apply_ite Fin.val]
    rw [Fin.val_sub_one_of_ne_zero (by omega)]
    split_ifs <;> omega
  · rw [if_neg (by simp [hb])]
    omega

/-- The rising rule goes up to the reached band, the falling rule down to the one that 2 degrees more reach. -/
theorem bandAfter_val (d : Nat) (b : Fin 5) :
    (p.bandAfter d b).val = max (reachedBand p d) (min (reachedBand p (d + 2)) b.val) := by
  have hle := reachedBand_le p d
  have hmono := reachedBand_mono h12 h23 h34 (Nat.le_add_right d 2)
  have hrise : (p.rise d b).val = max (reachedBand p d) b.val := by
    simp only [PartConfig.rise, riseOnce_val h12 h23 h34]
    omega
  have hfall (b : Fin 5) : (p.fall d b).val = min (reachedBand p (d + 2)) b.val := by
    simp only [PartConfig.fall, fallOnce_val h12 h23 h34]
    omega
  rw [PartConfig.bandAfter, hfall, hrise]
  omega

end

/-! ## One station's computation (R110 to R118) -/

/-- A temperature or a sensor fault in the metering fields (R112, R113). -/
def tempered (p : PartConfig) (m : Metering) : Option TempReading → Metering
  | none => m
  | some .sensorFault => { m with tempFault := true }
  | some (.degrees d) => Metering.takeTemp p d m

/-- What the temperature stage reports, from the band held to the band after (R112, R113). -/
def temperatureReports (i : Station) (held band : Fin 5) (x : State) : Option TempReading → State
  | none => x
  | some .sensorFault => x.raiseCondition (.tempFault i) held.val
  | some (.degrees _) =>
    if band = held then x.endCondition (.tempFault i) else (x.endCondition (.tempFault i)).raise .tempBand (some i) band.val

/-- The scaled volume of counts in a band (R115, R116). -/
def scaledIn (r : StationRec) (n : Drops) (band : Fin 5) : Nat := scaleVolume (r.volumes.raw n) r.volumes.factors[band]

/-- What the volume stages report (R115, R117). -/
def volumeReports (i : Station) (r : StationRec) (n : Drops) (scaled : Nat) (x : State) : State :=
  let x1 := if r.volumes.valid = false ∧ n.total ≠ 0 then x.raiseCondition (.uncalibrated i) n.total else x
  if r.config.cycleCeiling < scaled then x1.raise .meterClamped (some i) scaled else x1

/-- The volume stages in the metering fields: the ceiling's flag and the accumulator (R117, R118). -/
def accumulated (r : StationRec) (scaled : Nat) (m : Metering) : Metering :=
  Metering.accumulate (min scaled r.config.cycleCeiling) { m with clamped := m.clamped || decide (r.config.cycleCeiling < scaled) }

/-- The whole nanolitres of a volume on their way, where there are any (R110, R118). -/
def yielded (i : Station) (m : Metering) (volume : Nat) : List Delivery := if m.whole volume = 0 then [] else [⟨i, m.whole volume⟩]

/-- The reports touch the queue and the standing conditions only. -/
theorem temperatureReports_eq (i : Station) (held band : Fin 5) (x : State) (reading : Option TempReading) :
    ∃ standing events, temperatureReports i held band x reading = (x.withStanding standing).withEvents events := by
  obtain ⟨standing, events, hend⟩ : ∃ standing events, x.endCondition (.tempFault i) = (x.withStanding standing).withEvents events := by
    rw [State.endCondition]
    split_ifs
    · exact ⟨_, _, rfl⟩
    · exact ⟨x.standing, x.events, rfl⟩
  cases reading with
  | none => exact ⟨x.standing, x.events, rfl⟩
  | some reading =>
    cases reading with
    | sensorFault => exact ⟨_, _, rfl⟩
    | degrees d =>
      rw [temperatureReports, hend]
      split_ifs
      · exact ⟨_, _, rfl⟩
      · exact ⟨_, _, rfl⟩

theorem volumeReports_eq (i : Station) (r : StationRec) (n : Drops) (scaled : Nat) (x : State) :
    ∃ standing events, volumeReports i r n scaled x = (x.withStanding standing).withEvents events := by
  rw [volumeReports]
  split_ifs
  · exact ⟨_, _, rfl⟩
  · exact ⟨x.standing, _, rfl⟩
  · exact ⟨_, _, rfl⟩
  · exact ⟨x.standing, x.events, rfl⟩

section
variable (x : State) (i : Station) (r : StationRec)

theorem setStation_endCondition (d : Condition) : (x.setStation i r).endCondition d = (x.endCondition d).setStation i r :=
  modStation_endCondition x i (fun _ => r) d

theorem modMeter_setStation (f : Metering → Metering) : (x.setStation i r).modMeter i f = x.setStation i { r with meter := f r.meter } :=
  modStation_setStation x i r _

theorem raise_setStation (k : EventKind) (p : Place) (v : Nat) : (x.setStation i r).raise k p v = (x.raise k p v).setStation i r := rfl

theorem takeTemp_band (p : PartConfig) (d : Nat) (m : Metering) : (Metering.takeTemp p d m).band = p.bandAfter d m.band := by
  rw [Metering.takeTemp]

theorem temperatureStage_setStation (reading : Option TempReading) : (x.setStation i r).temperatureStage i reading =
    (temperatureReports i r.meter.band (tempered x.part r.meter reading).band x reading).setStation i
      { r with meter := tempered x.part r.meter reading } := by
  cases reading with
  | none => rfl
  | some reading =>
    cases reading with
    | sensorFault =>
      rw [State.temperatureStage, State.takeSensorFault, modMeter_setStation, State.setStation_station_same]
      rfl
    | degrees d =>
      have hpart : (x.setStation i r).part = x.part := rfl
      simp only [State.temperatureStage, State.takeTemp, modMeter_setStation, State.setStation_station_same, setStation_endCondition,
        temperatureReports, tempered, takeTemp_band, hpart]
      split_ifs with h
      · rfl
      · exact raise_setStation _ _ _ _ _ _

/-- Counts against the table and a scaled volume against the ceiling, with the two flags (R115, R117). -/
theorem clampStage_setStation (n : Drops) (scaled : Nat) : ((x.setStation i r).testCalibration i n).clampStage i scaled =
    (volumeReports i r n scaled x).setStation i
      { r with meter := { r.meter with clamped := r.meter.clamped || decide (r.config.cycleCeiling < scaled) } } := by
  have htested : (x.setStation i r).testCalibration i n =
      (if r.volumes.valid = false ∧ n.total ≠ 0 then x.raiseCondition (.uncalibrated i) n.total else x).setStation i r := by
    rw [State.testCalibration, State.setStation_station_same]
    by_cases h : r.volumes.valid = false ∧ n.total ≠ 0
    · rw [if_pos h, if_neg (by simp [h])]
      rfl
    · rw [if_neg h, if_pos (by simpa [imp_iff_not_or] using h)]
  rw [htested, State.clampStage, State.setStation_station_same, volumeReports]
  by_cases h : r.config.cycleCeiling < scaled
  · rw [if_pos h, if_pos h, modMeter_setStation, decide_eq_true h, Bool.or_true]
    rfl
  · rw [if_neg h, if_neg h, decide_eq_false h, Bool.or_false]

theorem volumeStages_setStation (n : Drops) : (x.setStation i r).volumeStages i n =
    ((volumeReports i r n (scaledIn r n r.meter.band) x).setStation i
      { r with meter := accumulated r (scaledIn r n r.meter.band) r.meter }).withMeter
      { x.meter with
        deliveries := x.meter.deliveries ++ yielded i r.meter (min (scaledIn r n r.meter.band) r.config.cycleCeiling) } := by
  generalize hscaled : scaledIn r n r.meter.band = scaled
  have hconverted : (x.setStation i r).volumeStages i n = ((volumeReports i r n scaled x).setStation i
      { r with meter := { r.meter with clamped := r.meter.clamped || decide (r.config.cycleCeiling < scaled) } }).convertStage i
        (min scaled r.config.cycleCeiling) := by
    rw [State.volumeStages, State.setStation_station_same, ← hscaled, ← clampStage_setStation]
    rfl
  have hmeter : (volumeReports i r n scaled x).meter = x.meter := by
    obtain ⟨standing, events, h⟩ := volumeReports_eq i r n scaled x
    rw [h]
    rfl
  rw [hconverted, State.convertStage, State.setStation_station_same, modMeter_setStation]
  generalize volumeReports i r n scaled x = y at hmeter
  rw [← hmeter, yielded]
  by_cases hw : r.meter.whole (min scaled r.config.cycleCeiling) = 0
  · rw [if_pos hw, List.append_nil]
    exact if_pos hw
  · rw [if_neg hw]
    exact if_neg hw

end

/-- The reading that a cycle has for a station. -/
def readingOf (c : CommittedCycle) (i : Station) : Option TempReading := c.temps.map (fun temps => temps[i])

/-- The metering fields after the temperature stage. -/
def temperedBy (p : PartConfig) (c : CommittedCycle) (i : Station) (r : StationRec) : Metering :=
  tempered p (Metering.countDrops c.counts[i] r.meter) (readingOf c i)

/-- The scaled volume of a cycle at a station, in the band that the cycle leaves. -/
def scaledBy (p : PartConfig) (c : CommittedCycle) (i : Station) (r : StationRec) : Nat :=
  scaledIn r c.counts[i] (temperedBy p c i r).band

/-- A station's metering fields after a cycle. -/
def meteredBy (p : PartConfig) (c : CommittedCycle) (i : Station) (r : StationRec) : Metering :=
  accumulated r (scaledBy p c i r) (temperedBy p c i r)

/-- What a station's computation reports. -/
def meterReports (p : PartConfig) (c : CommittedCycle) (i : Station) (r : StationRec) (x : State) : State :=
  volumeReports i r c.counts[i] (scaledBy p c i r)
    (temperatureReports i r.meter.band (temperedBy p c i r).band x (readingOf c i))

/-- What a station's computation sends to the station controller. -/
def yieldedBy (p : PartConfig) (c : CommittedCycle) (i : Station) (r : StationRec) : List Delivery :=
  yielded i (temperedBy p c i r) (min (scaledBy p c i r) r.config.cycleCeiling)

theorem meterReports_eq (p : PartConfig) (c : CommittedCycle) (i : Station) (r : StationRec) (x : State) :
    ∃ standing events, meterReports p c i r x = (x.withStanding standing).withEvents events := by
  obtain ⟨standing, events, htemp⟩ := temperatureReports_eq i r.meter.band (temperedBy p c i r).band x (readingOf c i)
  obtain ⟨standing', events', hvolume⟩ := volumeReports_eq i r c.counts[i] (scaledBy p c i r) ((x.withStanding standing).withEvents events)
  exact ⟨standing', events', by rw [meterReports, htemp, hvolume]; rfl⟩

/-- One station's computation: its reports, its metering fields and its delivery. -/
theorem computeStation_eq (c : CommittedCycle) (s : State) (i : Station) : State.computeStation c s i =
    ((meterReports s.part c i (s.station i) s).setStation i
      { s.station i with meter := meteredBy s.part c i (s.station i) }).withMeter
      { s.meter with deliveries := s.meter.deliveries ++ yieldedBy s.part c i (s.station i) } := by
  generalize hr : s.station i = r
  have htempered : (s.modMeter i (Metering.countDrops c.counts[i])).temperatureStage i (readingOf c i) =
      (temperatureReports i r.meter.band (temperedBy s.part c i r).band s (readingOf c i)).setStation i
        { r with meter := temperedBy s.part c i r } := by
    rw [State.modMeter, State.modStation, hr]
    exact temperatureStage_setStation s i { r with meter := Metering.countDrops c.counts[i] r.meter } (readingOf c i)
  have hmeter : (temperatureReports i r.meter.band (temperedBy s.part c i r).band s (readingOf c i)).meter = s.meter := by
    obtain ⟨standing, events, h⟩ := temperatureReports_eq i r.meter.band (temperedBy s.part c i r).band s (readingOf c i)
    rw [h]
    rfl
  rw [State.computeStation, show c.temps.map (fun t => t[i]) = readingOf c i from rfl, htempered, volumeStages_setStation, hmeter]
  rfl

/-! ## The eight stations of a cycle -/

/-- Two states have the same event queue and the same standing conditions. -/
structure SameReports (a b : State) : Prop where
  events : a.events = b.events
  standing : a.standing = b.standing

namespace SameReports

variable {a b : State} (h : SameReports a b)
include h

theorem ite {p : Prop} [Decidable p] {a' b' : State} (h' : SameReports a' b') : SameReports (if p then a else a') (if p then b else b') := by
  split_ifs
  · exact h
  · exact h'

theorem raise (k : EventKind) (p : Place) (v : Nat) : SameReports (a.raise k p v) (b.raise k p v) :=
  ⟨congrArg (EventQueue.raise · none k p v) h.events, h.standing⟩

theorem raiseCondition (d : Condition) (v : Nat) : SameReports (a.raiseCondition d v) (b.raiseCondition d v) :=
  ⟨congrArg (EventQueue.raise · (some d) d.kind d.place v) h.events, congrArg (fun standing => standing.set d.number (some v)) h.standing⟩

theorem endCondition (d : Condition) : SameReports (a.endCondition d) (b.endCondition d) := by
  have hstands : a.stands d = b.stands d := by rw [State.stands, State.stands, h.standing]
  rw [State.endCondition, State.endCondition, hstands, h.events, h.standing]
  split_ifs
  · exact ⟨rfl, rfl⟩
  · exact h

theorem meterReports (p : PartConfig) (c : CommittedCycle) (i : Station) (r : StationRec) :
    SameReports (meterReports p c i r a) (meterReports p c i r b) := by
  have htemp : SameReports (temperatureReports i r.meter.band (temperedBy p c i r).band a (readingOf c i))
      (temperatureReports i r.meter.band (temperedBy p c i r).band b (readingOf c i)) := by
    cases readingOf c i with
    | none => exact h
    | some reading =>
      cases reading with
      | sensorFault => exact h.raiseCondition _ _
      | degrees d => exact ite (h.endCondition _) ((h.endCondition _).raise _ _ _)
  have htested := ite (p := r.volumes.valid = false ∧ c.counts[i].total ≠ 0)
    (htemp.raiseCondition (.uncalibrated i) c.counts[i].total) htemp
  exact ite (htested.raise _ _ _) htested

end SameReports

/-- What a cycle's computation leaves alone. -/
structure MeterFrame (s t : State) : Prop where
  auth : t.auth = s.auth
  part : t.part = s.part
  tally : t.tally = s.tally
  bus : t.bus = s.bus
  store : t.store = s.store
  writes : t.writes = s.writes
  departed : t.departed = s.departed
  link : t.link = s.link

section
variable (c : CommittedCycle) (s : State) (i : Station)

theorem computeStation_meterFrame : MeterFrame s (State.computeStation c s i) := by
  obtain ⟨standing, events, hreports⟩ := meterReports_eq s.part c i (s.station i) s
  rw [computeStation_eq, hreports]
  exact ⟨rfl, rfl, rfl, rfl, rfl, rfl, rfl, rfl⟩

theorem computeStation_sameReports {x : State} (h : SameReports x s) :
    SameReports (meterReports s.part c i (s.station i) x) (State.computeStation c s i) := by
  rw [computeStation_eq]
  obtain ⟨hevents, hstanding⟩ := h.meterReports s.part c i (s.station i)
  exact ⟨hevents, hstanding⟩

theorem computeStation_station (k : Station) : (State.computeStation c s i).station k =
    if k = i then { s.station k with meter := meteredBy s.part c k (s.station k) } else s.station k := by
  obtain ⟨standing, events, hreports⟩ := meterReports_eq s.part c i (s.station i) s
  rw [computeStation_eq, hreports]
  by_cases h : k = i
  · subst h
    rw [if_pos rfl]
    exact State.setStation_station_same ((s.withStanding standing).withEvents events) k _
  · rw [if_neg h]
    exact State.setStation_station_other ((s.withStanding standing).withEvents events) i k _ h

theorem computeStation_meter : (State.computeStation c s i).meter =
    { s.meter with deliveries := s.meter.deliveries ++ yieldedBy s.part c i (s.station i) } := by
  rw [computeStation_eq]
  rfl

end

/-- The computation of several stations, one after another: each by its own record. -/
theorem foldl_computeStation (c : CommittedCycle) (stations : List Station) (hd : stations.Nodup) (s x : State) (hx : SameReports x s) :
    let t := stations.foldl (State.computeStation c) s
    MeterFrame s t ∧ SameReports (stations.foldl (fun x i => meterReports s.part c i (s.station i) x) x) t ∧
    (∀ k, t.station k = if k ∈ stations then { s.station k with meter := meteredBy s.part c k (s.station k) } else s.station k) ∧
    t.meter = { s.meter with
      deliveries := s.meter.deliveries ++ stations.flatMap (fun i => yieldedBy s.part c i (s.station i)) } := by
  induction stations generalizing s x with
  | nil => exact ⟨⟨rfl, rfl, rfl, rfl, rfl, rfl, rfl, rfl⟩, hx, fun k => rfl, by simp⟩
  | cons i rest ih =>
    obtain ⟨hnew, hrest⟩ := List.nodup_cons.mp hd
    have hpart := (computeStation_meterFrame c s i).part
    have hsame : ∀ k ∈ rest, (State.computeStation c s i).station k = s.station k := fun k hk => by
      rw [computeStation_station, if_neg fun h : k = i => hnew (h ▸ hk)]
    obtain ⟨hframe, hreports, hstation, hmeter⟩ := ih hrest _ _ (computeStation_sameReports c s i hx)
    have hframe0 := computeStation_meterFrame c s i
    refine ⟨⟨hframe.auth.trans hframe0.auth, hframe.part.trans hframe0.part, hframe.tally.trans hframe0.tally, hframe.bus.trans hframe0.bus,
      hframe.store.trans hframe0.store, hframe.writes.trans hframe0.writes, hframe.departed.trans hframe0.departed,
      hframe.link.trans hframe0.link⟩, ?_, fun k => ?_, ?_⟩
    · have hfold : rest.foldl (fun x k => meterReports (State.computeStation c s i).part c k ((State.computeStation c s i).station k) x)
          (meterReports s.part c i (s.station i) x) =
          rest.foldl (fun x k => meterReports s.part c k (s.station k) x) (meterReports s.part c i (s.station i) x) :=
        List.foldl_ext _ _ _ fun y k hk => by rw [hpart, hsame k hk]
      rw [hfold] at hreports
      exact hreports
    · rw [List.foldl_cons, hstation k, computeStation_station, hpart]
      by_cases hk : k = i
      · subst hk
        rw [if_neg hnew, if_pos rfl, if_pos List.mem_cons_self]
      · simp only [hk, if_false, List.mem_cons, false_or]
    · have hdeliveries : rest.flatMap (fun k => yieldedBy (State.computeStation c s i).part c k ((State.computeStation c s i).station k)) =
          rest.flatMap (fun k => yieldedBy s.part c k (s.station k)) :=
        List.flatMap_congr fun k hk => by rw [hpart, hsame k hk]
      rw [List.foldl_cons, hmeter, hdeliveries, computeStation_meter, List.flatMap_cons, List.append_assoc]

/-- A station's deliveries among those of a cycle: its own. -/
theorem filter_flatMap_station (own : Station → List Delivery) (hown : ∀ k, ∀ d ∈ own k, d.station = k) (i : Station)
    (stations : List Station) (hd : stations.Nodup) :
    (stations.flatMap own).filter (fun d => d.station = i) = if i ∈ stations then own i else [] := by
  induction stations with
  | nil => rfl
  | cons k rest ih =>
    obtain ⟨hnew, hrest⟩ := List.nodup_cons.mp hd
    rw [List.flatMap_cons, List.filter_append, ih hrest]
    by_cases h : i = k
    · subst h
      rw [if_neg hnew, if_pos List.mem_cons_self, List.append_nil, List.filter_eq_self.mpr fun d hmem => decide_eq_true (hown i d hmem)]
    · have hnone : (own k).filter (fun d => d.station = i) = [] :=
        List.filter_eq_nil_iff.mpr fun d hmem => by simpa [hown k d hmem] using Ne.symm h
      simp only [hnone, List.nil_append, List.mem_cons, h, false_or]

theorem yielded_station (i : Station) (m : Metering) (volume : Nat) : ∀ d ∈ yielded i m volume, d.station = i := by
  unfold yielded
  split_ifs
  · exact fun _ hd => absurd hd List.not_mem_nil
  · exact fun d hd => by rw [List.mem_singleton.mp hd]

section
variable (p : PartConfig) (c : CommittedCycle) (i : Station) (r : StationRec)

/-- The temperature stage moves neither volumes nor counts. -/
theorem temperedBy_keeps : (temperedBy p c i r).fraction = r.meter.fraction ∧ (temperedBy p c i r).converted = r.meter.converted ∧
    (temperedBy p c i r).clamped = r.meter.clamped ∧ (temperedBy p c i r).charged = r.meter.charged ∧
    (temperedBy p c i r).debt = r.meter.debt ∧ (temperedBy p c i r).dryOverflow = r.meter.dryOverflow ∧
    (temperedBy p c i r).lifetime = r.meter.lifetime.addLifetime c.counts[i] := by
  rw [temperedBy]
  cases readingOf c i with
  | none => exact ⟨rfl, rfl, rfl, rfl, rfl, rfl, rfl⟩
  | some reading => cases reading <;> exact ⟨rfl, rfl, rfl, rfl, rfl, rfl, rfl⟩

theorem meteredBy_volume : (meteredBy p c i r).fraction = (r.meter.fraction + min (scaledBy p c i r) r.config.cycleCeiling) % 16000 ∧
    (meteredBy p c i r).converted =
      min 4294967295 (r.meter.converted + (r.meter.fraction + min (scaledBy p c i r) r.config.cycleCeiling) / 16000) ∧
    (meteredBy p c i r).clamped = (r.meter.clamped || decide (r.config.cycleCeiling < scaledBy p c i r)) ∧
    (meteredBy p c i r).charged = r.meter.charged ∧ (meteredBy p c i r).debt = r.meter.debt ∧
    (meteredBy p c i r).dryOverflow = r.meter.dryOverflow := by
  obtain ⟨hfraction, hconverted, hclamped, hcharged, hdebt, hdry, -⟩ := temperedBy_keeps p c i r
  rw [← hfraction, ← hconverted, ← hclamped, ← hcharged, ← hdebt, ← hdry]
  exact ⟨rfl, satAdd_eq_min .., rfl, rfl, rfl, rfl⟩

theorem meteredBy_temperature : (meteredBy p c i r).band = (temperedBy p c i r).band ∧
    (meteredBy p c i r).lastTemp = (temperedBy p c i r).lastTemp ∧ (meteredBy p c i r).tempFault = (temperedBy p c i r).tempFault ∧
    (meteredBy p c i r).bandChanged = (temperedBy p c i r).bandChanged := ⟨rfl, rfl, rfl, rfl⟩

theorem meteredBy_lifetime : (meteredBy p c i r).lifetime =
    ⟨min 281474976710655 (r.meter.lifetime.small + c.counts[i].small), min 281474976710655 (r.meter.lifetime.medium + c.counts[i].medium),
      min 281474976710655 (r.meter.lifetime.large + c.counts[i].large),
      min 281474976710655 (r.meter.lifetime.service + c.counts[i].service)⟩ := by
  obtain ⟨-, -, -, -, -, -, hlifetime⟩ := temperedBy_keeps p c i r
  have hkept : (meteredBy p c i r).lifetime = (temperedBy p c i r).lifetime := rfl
  rw [hkept, hlifetime, Drops.addLifetime, satAdd_eq_min, satAdd_eq_min, satAdd_eq_min, satAdd_eq_min]
  rfl

theorem yieldedBy_eq : yieldedBy p c i r =
    if (r.meter.fraction + min (scaledBy p c i r) r.config.cycleCeiling) / 16000 = 0 then []
    else [⟨i, (r.meter.fraction + min (scaledBy p c i r) r.config.cycleCeiling) / 16000⟩] := by
  obtain ⟨hfraction, -⟩ := temperedBy_keeps p c i r
  rw [← hfraction]
  rfl

end

/-- The effect of a cycle's computation (R110). -/
theorem computeCycle_eq {s : State} {c : CommittedCycle} {rest : List CommittedCycle} (h : s.meter.cycles = c :: rest) :
    ∃ t, s.computeCycle = t ∧ MeterFrame s t ∧ t.meter.cycles = rest ∧
      SameReports (stationList.foldl (fun x i => meterReports s.part c i (s.station i) x) s) t ∧
      (∀ i, t.station i = { s.station i with meter := meteredBy s.part c i (s.station i) }) ∧
      ∀ i : Station, t.meter.deliveries.filter (fun d => d.station = i) =
        s.meter.deliveries.filter (fun d => d.station = i) ++ yieldedBy s.part c i (s.station i) := by
  obtain ⟨hframe, hreports, hstation, hmeter⟩ := foldl_computeStation c stationList (by decide) s s ⟨rfl, rfl⟩
  have hall : ∀ i : Station, i ∈ stationList := by decide
  have hcompute : s.computeCycle = (stationList.foldl (State.computeStation c) s).withMeter
      { (stationList.foldl (State.computeStation c) s).meter with cycles := rest } := by
    simp only [State.computeCycle, h]
    rfl
  refine ⟨_, hcompute, ⟨hframe.auth, hframe.part, hframe.tally, hframe.bus, hframe.store, hframe.writes, hframe.departed, hframe.link⟩, rfl,
    ⟨hreports.events, hreports.standing⟩, fun i => ?_, fun i => ?_⟩
  · exact (hstation i).trans (if_pos (hall i))
  · have hdeliveries := congrArg (fun m => m.deliveries.filter (fun d => d.station = i)) hmeter
    refine hdeliveries.trans ?_
    rw [List.filter_append, filter_flatMap_station (fun i => yieldedBy s.part c i (s.station i)) (fun k => yielded_station k _ _) i stationList (by decide), if_pos (hall i)]

/-- Settles O56: the eight stations computed one after another, each by its own record. -/
theorem cyclesBecomeWholeNanolitres : Obligations.CyclesBecomeWholeNanolitres := by
  intro s c rest hup sum scaled
  have hexec : goesTo (exec .cycleComputation s) s.computeCycle := congrArg Host.Outcome.next (whenRunning_of_up hup _)
  refine ⟨fun hnone => goesTo_of_eq hexec (by simp only [State.computeCycle, hnone]), fun hcycles => ?_⟩
  obtain ⟨t, ht, hframe, hrest, hreports, hstation, hdeliveries⟩ := computeCycle_eq hcycles
  have hband : ∀ i, (t.station i).meter.band = (temperedBy s.part c i (s.station i)).band := fun i => by rw [hstation i]; rfl
  refine ⟨t, goesTo_of_eq hexec ht, hrest, hframe.tally, hframe.bus, hframe.store, hframe.writes, hframe.departed, hframe.link,
    fun i => ?_, ?_⟩
  · obtain ⟨hfraction, hconverted, hclamped, hcharged, hdebt, hdry⟩ := meteredBy_volume s.part c i (s.station i)
    refine ⟨meteredBy s.part c i (s.station i), hstation i, meteredBy_lifetime .., fun hnone => ?_, fun temps htemps hfault => ?_,
      fun temps d htemps hdegrees h12 h23 h34 => ?_, hfraction, hconverted, hclamped, hcharged, hdebt, hdry, ?_⟩
    · obtain ⟨hband, hlast, hfault, hchanged⟩ := meteredBy_temperature s.part c i (s.station i)
      have htempered : temperedBy s.part c i (s.station i) = Metering.countDrops c.counts[i] (s.station i).meter := by
        rw [temperedBy, readingOf, hnone]
        rfl
      rw [hband, hlast, hfault, hchanged, htempered]
      exact ⟨rfl, rfl, rfl, rfl⟩
    · obtain ⟨hband, hlast, hflag, hchanged⟩ := meteredBy_temperature s.part c i (s.station i)
      have htempered : temperedBy s.part c i (s.station i) =
          { Metering.countDrops c.counts[i] (s.station i).meter with tempFault := true } := by
        rw [temperedBy, readingOf, htemps, Option.map_some, hfault]
        rfl
      rw [hband, hlast, hflag, hchanged, htempered]
      exact ⟨rfl, rfl, rfl, rfl⟩
    · obtain ⟨hband, hlast, hflag, hchanged⟩ := meteredBy_temperature s.part c i (s.station i)
      have htempered : temperedBy s.part c i (s.station i) =
          Metering.takeTemp s.part d (Metering.countDrops c.counts[i] (s.station i).meter) := by
        rw [temperedBy, readingOf, htemps, Option.map_some, hdegrees]
        rfl
      have hmoved : (meteredBy s.part c i (s.station i)).band = s.part.bandAfter d (s.station i).meter.band := by
        rw [hband, htempered, takeTemp_band]
        rfl
      refine ⟨?_, ?_, ?_, ?_⟩
      · rw [hlast, htempered]
        rfl
      · rw [hflag, htempered]
        rfl
      · rw [hchanged, htempered, hmoved]
        rfl
      · rw [hmoved]
        exact bandAfter_val h12 h23 h34 d _
    · exact (hdeliveries i).trans (congrArg _ (yieldedBy_eq ..))
  · intro reports reported
    have hreport : ∀ x i, reports x i = meterReports s.part c i (s.station i) x := fun x i => by
      have htemp : ∀ (held band : Fin 5) (reading : Option TempReading), (match reading with
          | none => x
          | some .sensorFault => x.raiseCondition (.tempFault i) held.val
          | some (.degrees _) =>
            let y := x.endCondition (.tempFault i)
            if band = held then y else y.raise .tempBand (some i) band.val) = temperatureReports i held band x reading := by
        intro held band reading
        cases reading with
        | none => rfl
        | some reading => cases reading <;> rfl
      have hscaled : scaledBy s.part c i (s.station i) = scaled i (t.station i).meter.band := by
        rw [hband i]
        rfl
      rw [meterReports, ← htemp, ← hband i, hscaled]
      rfl
    have hfold : reported = stationList.foldl (fun x i => meterReports s.part c i (s.station i) x) s :=
      List.foldl_ext _ _ _ fun x i _ => hreport x i
    rw [hfold]
    exact ⟨hreports.events.symm, hreports.standing.symm⟩

end Sys2Proof.Laws
end

section
set_option Elab.async false
/-! PROOFS. What forms a reply (section 10.5): the operations that leave the host link alone, and those that end with an answer. -/

namespace Sys2Proof.Laws

open Sys2Proof.Machine Sys2Proof.Safety

/-! ## Operations that leave the host link alone -/

section
variable (s : State)

theorem forStations_link {f : State → Station → State} (hf : ∀ x i, (f x i).link = x.link) : (s.forStations f).link = s.link := by
  have hfold : ∀ (stations : List Station) (x : State), (stations.foldl f x).link = x.link := by
    intro stations
    induction stations with
    | nil => exact fun x => rfl
    | cons i rest ih => exact fun x => (ih (f x i)).trans (hf x i)
  exact hfold stationList s

/-- A row that acts while the part runs, and there leaves the link alone. -/
theorem whenRunning_link {f : State → State} (hf : (f s).link = s.link) : (s.whenRunning f).link = s.link := by
  rw [State.whenRunning]
  split_ifs
  · exact hf
  · rfl

theorem whenInService_link {f : State → State} (hf : (f s).link = s.link) : (s.whenInService f).link = s.link := by
  rw [State.whenInService]
  split_ifs
  · exact hf
  · rfl

theorem onTransaction_link {f : State → Job → State} (hf : ∀ j, (f s j).link = s.link) : (s.onTransaction f).link = s.link := by
  unfold State.onTransaction
  split
  · split_ifs
    · exact hf _
    · rfl
  · rfl

theorem onStatus_link {f : State → Job → State} (hf : ∀ j, (f s j).link = s.link) : (s.onStatus f).link = s.link := by
  unfold State.onStatus
  split
  · split_ifs
    · exact hf _
    · rfl
  · rfl

theorem ite_link {p : Prop} [Decidable p] {a b : State} (ha : a.link = s.link) (hb : b.link = s.link) :
    (if p then a else b).link = s.link := by
  split_ifs
  · exact ha
  · exact hb

theorem endTransaction_link (j : Job) (how : TransferEnd) : (s.endTransaction j how).link = s.link := by
  unfold State.endTransaction
  split <;> (repeat' split) <;> simp

theorem pollResponse_link (j : Job) : (s.pollResponse j).link = s.link := ite_link s (by simp) (by simp)

theorem endResponse_link (j : Job) (d : Option Digest) : (s.endResponse j d).link = s.link := by
  unfold State.endResponse
  split <;> simp

theorem endWritePhase_link (j : Job) (acknowledged : Bool) : (s.endWritePhase j acknowledged).link = s.link := ite_link s (by simp) (by simp)

theorem pollStatus_link (j : Job) : (s.pollStatus j).link = s.link := ite_link s (by simp) (by simp)

theorem endStatusWait_link (j : Job) : (s.endStatusWait j).link = s.link := ite_link s (by simp) (by simp)

theorem takeStatus_link (status : Byte) (j : Job) : (State.takeStatus status s j).link = s.link :=
  ite_link s (by simp) (ite_link s (by simp) (by simp))

theorem cutJob_link (j : Job) : (s.cutJob j).link = s.link := by
  unfold State.cutJob
  split <;> simp

theorem foreignStart_link : (s.foreignStart).link = s.link := by
  unfold State.foreignStart
  split
  · exact ite_link s rfl rfl
  · exact onTransaction_link s fun j => by simp
  · rfl
  · rfl
  · rfl

theorem countMarkerError_link : (s.countMarkerError).link = s.link := by
  unfold State.countMarkerError
  exact ite_link s (by simp) rfl

theorem countCheckError_link : (s.countCheckError).link = s.link := by
  unfold State.countCheckError
  exact ite_link s (by simp) rfl

theorem confirmTest_link : (s.confirmTest).link = s.link := by
  unfold State.confirmTest
  split
  · split_ifs <;> simp
  all_goals rfl

theorem judgeBad_link (e : Fin 8) : (s.judgeBad e).link = s.link := by
  have hcounted := countMarkerError_link (s.withTally (s.tally.judgeBad e))
  exact ite_link s hcounted (by simpa using hcounted)

theorem judgeFrame_link : s.judgeFrame.link = s.link := by
  unfold State.judgeFrame
  split
  · exact ite_link s rfl (ite_link s rfl (judgeBad_link _ _))
  all_goals rfl

theorem handOn_link (c : CommittedCycle) : (s.handOn c).link = s.link := ite_link s rfl rfl

theorem attemptEstimate_link : s.attemptEstimate.link = s.link := ite_link s (handOn_link s _) (by simp)

theorem commitActual_link (c : CommittedCycle) : (s.commitActual c).link = s.link := by
  rw [State.commitActual]
  simpa using handOn_link s c

theorem noteCheck_link (good : Bool) : (s.noteCheck good).link = s.link := ite_link s rfl (countCheckError_link _)

theorem decideCycle_link (b : CycleBuffer) (good : Bool) : (s.decideCycle b good).link = s.link :=
  ite_link s (commitActual_link s _) (attemptEstimate_link s)

theorem afterCycle_link : s.afterCycle.link = s.link := ite_link s (by simp) rfl

theorem endCycle_link : s.endCycle.link = s.link := by
  unfold State.endCycle
  split
  · rfl
  · exact ite_link s ((afterCycle_link _).trans ((decideCycle_link _ _ _).trans (noteCheck_link s _))) rfl

theorem cycleTimerExpires_link : s.cycleTimerExpires.link = s.link := by
  unfold State.cycleTimerExpires
  split
  iterate 3 exact rfl
  all_goals exact attemptEstimate_link s

theorem silenceExpires_link : s.silenceExpires.link = s.link := ite_link s (by simp) rfl

theorem takeEdge_link (rising tld : Bool) : (s.takeEdge rising tld).link = s.link := by
  unfold State.takeEdge
  split <;> simp

theorem configureLink_link (source : TallySource) (c : LinkConfig) : (s.configureLink source c).link = s.link := by
  have hsource : ∀ old, ((s.withTally { s.tally with config := c }).applySource source old).link = s.link := fun old => by
    unfold State.applySource
    split
    · simp
    · rfl
    · rfl
    · exact ite_link s rfl rfl
  have hmarker : ∀ x : State, x.narrowMarkerErrors.link = x.link := fun x => ite_link x (by simp) rfl
  have hcheck : ∀ x : State, x.narrowCheckErrors.link = x.link := fun x => ite_link x (by simp) rfl
  exact ite_link s ((hcheck _).trans ((hmarker _).trans (hsource _))) (hsource _)

theorem computeCycle_link : s.computeCycle.link = s.link := by
  cases h : s.meter.cycles with
  | nil => simp only [State.computeCycle, h]
  | cons c rest =>
    obtain ⟨t, ht, hframe, -⟩ := computeCycle_eq h
    rw [ht, hframe.link]

theorem takeDelivery_link (i : Station) : (s.takeDelivery i).link = s.link := by
  unfold State.takeDelivery
  split <;> simp

theorem presenceRise_link (i : Station) : (s.presenceRise i).link = s.link :=
  ite_link s rfl (whenInService_link (s.withPresence _) rfl)

theorem presenceFall_link (i : Station) : (s.presenceFall i).link = s.link :=
  ite_link s (whenInService_link (s.withPresence _) rfl) rfl

theorem removeJobs_link (i : Station) : (s.removeJobs i).link = s.link := by
  have hfold : ∀ (jobs : List Job) (x : State), (jobs.foldl (fun x j => x.retireJob j .removed []) x).link = x.link := by
    intro jobs
    induction jobs with
    | nil => exact fun x => rfl
    | cons j rest ih => exact fun x => (ih _).trans (by simp)
  exact hfold _ (s.withBus _)

theorem tearDown_link (i : Station) : (s.tearDown i).link = s.link := by
  have hleft : ∀ x : State, (x.removeCartridge i).link = x.link := fun x => by
    unfold State.removeCartridge
    split <;> simp
  simpa [State.tearDown, State.clearContext, hleft] using removeJobs_link s i

theorem storePart_link (p : PartConfig) : (s.storePart p).link = s.link :=
  ite_link s rfl (forStations_link (s.withPart p) fun x i => by simp)

theorem applyReserve_link (i : Station) (reserve : Nat) : (s.applyReserve i reserve).link = s.link :=
  ite_link s (by simp) (ite_link s (by simp) rfl)

theorem release_link (i : Station) : (s.release i).link = s.link := ite_link s (by simp [State.depart]) (by simp [State.releaseAtOnce])

theorem admitUnverified_link (i : Station) (c : CartridgeRecord) : (s.admitUnverified i c).link = s.link := by
  have hsupplied : (s.supplyFigures i c).link = s.link := ite_link s rfl (by simp)
  have hdisowned : ((s.supplyFigures i c).disown i c).link = s.link := ite_link s (by simpa using hsupplied) hsupplied
  simpa [State.admitUnverified] using hdisowned

theorem abortJob_link (j : Job) : (s.abortJob j).link = s.link := ite_link s rfl (by simp)

theorem applyWritten_link (item : StoreItem) : (s.applyWritten item).link = s.link := by
  unfold State.applyWritten
  split
  · exact forStations_link s fun x i => ite_link x (by simp) rfl
  · rfl
  · rfl

theorem reidentify_frame (i : Station) : (s.reidentify i).link = s.link ∧ (s.reidentify i).operating = s.operating := by
  unfold State.reidentify
  split_ifs <;> simp

end

/-! ## Replies as they are formed (R178, R179) -/

/-- What O3 asks of a command that leads from one state to another. -/
def Reports (c : Instr) (s t : State) : Prop :=
  ∀ r : Reply, t.link.replies = s.link.replies ++ [r] →
    r.flags = flagBits (!(if c = .authenticate then s else t).events.entries.isEmpty) s.link.overrun (t.operating == .halted)
      (decide (c = .getEvents) && s.events.lost) ∧
    t.link.overrun = false ∧ (c = .getEvents → t.events.lost = false)

namespace Reports

variable {c : Instr} {s t u : State}

/-- A command that forms no reply. -/
theorem of_fewer (h : t.link.replies.length ≤ s.link.replies.length) : Reports c s t := fun r hr => by
  have hlength := congrArg List.length hr
  rw [List.length_append, List.length_singleton] at hlength
  omega

theorem of_link (h : t.link = s.link) : Reports c s t := of_fewer (by rw [h])

theorem ite {p : Prop} [Decidable p] (ht : Reports c s t) (hu : Reports c s u) : Reports c s (if p then t else u) := by
  split_ifs
  · exact ht
  · exact hu

theorem whenRunning {f : State → State} (h : Reports c s (f s)) : Reports c s (s.whenRunning f) := ite h (of_link rfl)

/-- An owner runs on a request that the engine has handed to it. -/
theorem serve {kind : RequestKind} {f : State → Request → State} (h : ∀ r, Reports c s (f s r)) : Reports c s (s.serve kind f) := by
  unfold State.serve
  refine ite ?_ (of_link rfl)
  split
  · exact ite (h _) (of_link rfl)
  all_goals exact of_link rfl

/-- A reply formed last, on a state with the replies and the overrun flag of before. -/
theorem formReply (hc : c ≠ .getEvents) (hevents : c = .authenticate → u.events = s.events) (hreplies : u.link.replies = s.link.replies)
    (hoverrun : u.link.overrun = s.link.overrun) (kind tag : Byte) (status : Status) (body : List Byte) :
    Reports c s (u.formReply kind tag status false body) := by
  intro r hr
  have hreply : u.replyNow kind tag status false body = r := by
    have hformed : s.link.replies ++ [u.replyNow kind tag status false body] = s.link.replies ++ [r] := by
      rw [← hr, ← hreplies]
      rfl
    simpa using hformed
  refine ⟨?_, rfl, fun h => absurd h hc⟩
  have hshown : (if c = .authenticate then s else u.formReply kind tag status false body).events = u.events := by
    split_ifs with h
    · exact (hevents h).symm
    · rfl
  rw [← hreply, hshown, decide_eq_false hc, ← hoverrun]
  exact flagsByte_eq_flagBits _ _ _ _

theorem answer (hc : c ≠ .getEvents) (hevents : c = .authenticate → u.events = s.events) (hlink : u.link = s.link) (r : Request)
    (status : Status) (body : List Byte) : Reports c s (u.answer r status body) :=
  formReply hc hevents (by rw [hlink]) (by rw [hlink]) _ _ _ _

/-- Nothing after a reply touches what it reports. -/
theorem followed (h : Reports c s t) (hreplies : u.link.replies = t.link.replies) (hoverrun : u.link.overrun = t.link.overrun)
    (hoperating : u.operating = t.operating) (hevents : c ≠ .authenticate → u.events = t.events) (hc : c ≠ .getEvents) : Reports c s u := by
  intro r hr
  obtain ⟨hflags, hclear, -⟩ := h r (hreplies ▸ hr)
  have hshown : (if c = .authenticate then s else u).events = (if c = .authenticate then s else t).events := by
    split_ifs with h
    · rfl
    · exact hevents h
  exact ⟨by rw [hflags, hshown, hoperating], hoverrun.trans hclear, fun h => absurd h hc⟩

theorem answerDone (hc : c ≠ .getEvents) (hevents : c = .authenticate → u.events = s.events) (hlink : u.link = s.link) (r : Request) :
    Reports c s (u.answerDone r) := by
  have hanswered := answer hc hevents hlink r .ok []
  exact ite (hanswered.followed rfl rfl rfl (fun _ => rfl) hc) hanswered

end Reports

section
variable {c : Instr} (hget : c ≠ .getEvents) (hauth : c ≠ .authenticate) (s : State)
include hget hauth

theorem reports_answerAfter {u : State} (hlink : u.link = s.link) (r : Request) (before awaited : List StoreWrite) :
    Reports c s (u.answerAfter r before awaited) := by
  cases awaited with
  | nil => exact .answerDone hget (fun h => absurd h hauth) hlink r
  | cons w rest => exact .of_fewer (by rw [← hlink]; rfl)

theorem reports_queueHostJob (r : Request) (j : Job) : Reports c s (s.queueHostJob r j) :=
  .ite (.answer hget (fun h => absurd h hauth) rfl _ _ _) (.answer hget (fun h => absurd h hauth) (by simp) _ _ _)

theorem reports_takeRequest : Reports c s s.takeRequest := by
  unfold State.takeRequest
  split
  · rename_i f slots hengine hslot
    cases judge s.isHalted f with
    | answered kind tag status =>
      exact .formReply (s := s) (u := s.withLink { s.link with slots }) hget (fun h => absurd h hauth) rfl rfl kind tag status []
    | handed r => exact .of_fewer le_rfl
  · exact .of_link rfl

theorem reports_completeWrite : Reports c s s.completeWrite := by
  unfold State.completeWrite
  split
  · exact .of_link rfl
  · rename_i w rest hwrites
    have hlink := applyWritten_link ((s.withStore (s.store.apply w.item)).withWrites rest) w.item
    unfold State.answerWaiting
    split
    · exact .answerDone (s := s) hget (fun h => absurd h hauth) hlink _
    · exact .of_link hlink

end

theorem startUp_replies (s : State) : s.startUp.link.replies = [] := by
  obtain ⟨table, events, writes, records, hstart, -⟩ := startUp_eq s
  rw [hstart]
  rfl

theorem reports_startUp {c : Instr} {s : State} (x : State) : Reports c s x.startUp := .of_fewer (by simp [startUp_replies])

theorem reports_replySent {c : Instr} (s : State) : Reports c s s.replySent := by
  unfold State.replySent
  split
  · exact .of_link rfl
  · rename_i r rest hreplies
    dsimp only
    split
    · exact reports_startUp _
    · exact .of_fewer (by simp [hreplies])

theorem reports_ownAuthenticate (s : State) (r : Request) : Reports .authenticate s (s.ownAuthenticate r) := by
  have hne : Instr.authenticate ≠ .getEvents := nofun
  have hrefused : Reports .authenticate s (s.answer r .wrongState []) := .answer hne (fun _ => rfl) rfl _ _ _
  have hagain : Reports .authenticate s ((s.answer r .ok []).reidentify (bodyStation r.body)) := by
    obtain ⟨hlink, hoperating⟩ := reidentify_frame (s.answer r .ok []) (bodyStation r.body)
    exact (Reports.answer hne (fun _ => rfl) rfl r .ok []).followed (by rw [hlink]) (by rw [hlink]) hoperating
      (fun h => absurd rfl h) hne
  unfold State.ownAuthenticate
  dsimp only
  split
  · exact .ite (.answer hne (fun _ => by simp) (by simp) _ _ _) hrefused
  · exact hagain
  · exact hagain
  all_goals exact hrefused

theorem reports_ownGetEvents (s : State) (r : Request) : Reports .getEvents s (s.ownGetEvents r) := by
  intro reply hr
  have hreply := List.append_cancel_left hr
  rw [List.cons.injEq] at hreply
  rw [← hreply.1]
  exact ⟨flagsByte_eq_flagBits _ _ _ _, rfl, fun _ => rfl⟩

/-- A command that the link's bytes bring forms no reply. -/
theorem onLink_reports {c : Instr} (s : State) {f : HostLink → HostLink} (hf : (f s.link).replies = s.link.replies) : Reports c s (s.onLink f) :=
  .whenRunning (.of_fewer (le_of_eq (congrArg List.length hf)))

theorem settle_replies (h : HostLink) : h.settle.replies = h.replies := by
  unfold HostLink.settle HostLink.acceptFrame
  split <;> (repeat' split) <;> rfl

theorem gapExpires_replies (h : HostLink) : h.gapExpires.replies = h.replies := by
  unfold HostLink.gapExpires
  split <;> (repeat' split) <;> rfl

theorem meetByte_replies (h : HostLink) (b : Byte) : (h.meetByte b).replies = h.replies := by
  unfold HostLink.meetByte
  split <;> (repeat' split) <;> rfl

/-- The owner of a request other than AUTHENTICATE and GET_EVENTS answers last. -/
theorem reports_answer {c : Instr} {s u : State} (hlink : u.link = s.link) (r : Request) (status : Status) (body : List Byte)
    (hget : c ≠ .getEvents := by nofun) (hauth : c ≠ .authenticate := by nofun) : Reports c s (u.answer r status body) :=
  .answer hget (fun h => absurd h hauth) hlink r status body

section
variable (s : State) (r : Request)

theorem reports_ownIdentify : Reports .identify s (s.ownIdentify r) := by
  unfold State.ownIdentify
  exact reports_answer (by rfl) r _ _

theorem reports_ownGetStatus : Reports .getStatus s (s.ownGetStatus r) := by
  unfold State.ownGetStatus
  exact reports_answer (by rfl) r _ _

theorem reports_ownConfigPart : Reports .configPart s (s.ownConfigPart r) := by
  unfold State.ownConfigPart
  exact reports_answer (storePart_link s _) r _ _

theorem reports_ownGetStation : Reports .getStation s (s.ownGetStation r) := by
  unfold State.ownGetStation
  exact reports_answer (by rfl) r _ _

theorem reports_ownConfigStation : Reports .configStation s (s.ownConfigStation r) := by
  unfold State.ownConfigStation
  exact reports_answer (by rw [applyReserve_link]; rfl) r _ _

theorem reports_ownConfigLink : Reports .configLink s (s.ownConfigLink r) := by
  unfold State.ownConfigLink
  exact reports_answer (configureLink_link s _ _) r _ _

theorem reports_ownReadLink : Reports .readLink s (s.ownReadLink r) := by
  unfold State.ownReadLink
  exact reports_answer (ite_link s (by simp [State.clearLinkCounters]) rfl) r _ _

theorem reports_ownSetVolumes : Reports .setVolumes s (s.ownSetVolumes r) := by
  unfold State.ownSetVolumes
  exact reports_answer (by simp) r _ _

theorem reports_ownListDeparted : Reports .listDeparted s (s.ownListDeparted r) := by
  unfold State.ownListDeparted
  exact reports_answer (by rfl) r _ _

theorem reports_ownSetMask : Reports .setMask s (s.ownSetMask r) := by
  unfold State.ownSetMask
  exact reports_answer (by rfl) r _ _

theorem reports_ownRelease : Reports .release s (s.ownRelease r) := by
  unfold State.ownRelease
  dsimp only
  split
  iterate 2 exact reports_answer (release_link s _) r _ _
  all_goals exact reports_answer (by rfl) r _ _

theorem reports_ownTagRead : Reports .tagRead s (s.ownTagRead r) :=
  .ite (reports_answer (by rfl) r _ _) (.ite (reports_answer rfl r _ _) (reports_queueHostJob (by nofun) (by nofun) s r _))

theorem reports_ownTagWrite : Reports .tagWrite s (s.ownTagWrite r) :=
  .ite (reports_answer (by rfl) r _ _) (.ite (reports_answer rfl r _ _) (reports_queueHostJob (by nofun) (by nofun) s r _))

theorem reports_ownGetJob : Reports .getJob s (s.ownGetJob r) := by
  unfold State.ownGetJob
  dsimp only
  split
  · exact reports_answer (by rfl) r _ _
  · split
    · exact reports_answer (by rfl) r _ _
    · exact reports_answer (by rfl) r _ _

theorem reports_ownAbortJob : Reports .abortJob s (s.ownAbortJob r) := by
  unfold State.ownAbortJob
  split
  · exact reports_answer (abortJob_link s _) r _ _
  · exact reports_answer (by rfl) r _ _

theorem reports_ownAdmit : Reports .admitCartridge s (s.ownAdmit r) := by
  unfold State.ownAdmit
  dsimp only
  split
  · unfold State.admitQuarantined
    split
    · exact reports_answer (by rfl) r _ _
    · exact reports_answer (by simp) r _ _
    · exact reports_answer (admitUnverified_link s _ _) r _ _
  · exact reports_answer (by rfl) r _ _

theorem reports_ownRevokeKey : Reports .revokeKey s (s.ownRevokeKey r) := by
  unfold State.ownRevokeKey
  dsimp only
  split
  iterate 3 exact reports_answer (by rfl) r _ _
  · exact .of_fewer le_rfl

theorem reports_ownTally : Reports .tally s (s.ownTally r) := by
  unfold State.ownTally
  split
  · exact reports_answer (by rfl) r _ _
  · exact reports_answer (commitActual_link s _) r _ _

theorem reports_ownForget : Reports .forget s (s.ownForget r) := by
  have hchanged : ∀ t, Reports .forget s (s.forgetTo r t) := fun t => .of_fewer le_rfl
  unfold State.ownForget
  split_ifs
  · exact hchanged _
  · split
    · exact hchanged _
    · exact reports_answer (by rfl) r _ _

theorem reports_ownRestart : Reports .restart s (s.ownRestart r) := by
  unfold State.ownRestart
  split
  · exact reports_answerAfter (u := s.stop) (by nofun) (by nofun) s rfl r _ _
  · exact reports_answerAfter (u := s) (by nofun) (by nofun) s rfl r _ _

end

theorem exec_reports (c : Instr) (s : State) : ∃ t, exec c s = .next t ∧ Reports c s t := by
  cases c with
  | powerOn => exact ⟨_, rfl, .ite (.of_link rfl) (.ite (reports_startUp _) (.of_link rfl))⟩
  | powerLoss landed => exact ⟨_, rfl, .ite (.of_fewer (Nat.zero_le _)) (.of_link rfl)⟩
  | resetNFall landed =>
    have hdown : Reports (.resetNFall landed) s ((if s.powered then s.goDown landed else s).withResetN false) := by
      split_ifs
      · exact .of_fewer (Nat.zero_le _)
      · exact .of_link rfl
    exact ⟨_, rfl, .ite hdown (.of_link rfl)⟩
  | resetNRise => exact ⟨_, rfl, .ite (.of_link rfl) (.ite (reports_startUp _) (.of_link rfl))⟩
  | hlFrameComplete => exact ⟨_, rfl, onLink_reports s (settle_replies _)⟩
  | gapTimerExpiry => exact ⟨_, rfl, onLink_reports s (gapExpires_replies _)⟩
  | lineError => exact ⟨_, rfl, onLink_reports s ((gapExpires_replies _).trans (settle_replies _))⟩
  | hlByteReceived byte => exact ⟨_, rfl, onLink_reports s ((meetByte_replies _ byte).trans (settle_replies _))⟩
  | takeRequest => exact ⟨_, rfl, .whenRunning (reports_takeRequest (by nofun) (by nofun) s)⟩
  | replySent => exact ⟨_, rfl, .whenRunning (reports_replySent s)⟩
  | retainedStoreWriteComplete => exact ⟨_, rfl, .whenRunning (reports_completeWrite (by nofun) (by nofun) s)⟩
  | identify => exact ⟨_, rfl, .serve (reports_ownIdentify s)⟩
  | getStatus => exact ⟨_, rfl, .serve (reports_ownGetStatus s)⟩
  | configPart => exact ⟨_, rfl, .serve (reports_ownConfigPart s)⟩
  | getStation => exact ⟨_, rfl, .serve (reports_ownGetStation s)⟩
  | configStation => exact ⟨_, rfl, .serve (reports_ownConfigStation s)⟩
  | release => exact ⟨_, rfl, .serve (reports_ownRelease s)⟩
  | tagRead => exact ⟨_, rfl, .serve (reports_ownTagRead s)⟩
  | tagWrite => exact ⟨_, rfl, .serve (reports_ownTagWrite s)⟩
  | getJob => exact ⟨_, rfl, .serve (reports_ownGetJob s)⟩
  | abortJob => exact ⟨_, rfl, .serve (reports_ownAbortJob s)⟩
  | authenticate => exact ⟨_, rfl, .serve (reports_ownAuthenticate s)⟩
  | admitCartridge => exact ⟨_, rfl, .serve (reports_ownAdmit s)⟩
  | revokeKey => exact ⟨_, rfl, .serve (reports_ownRevokeKey s)⟩
  | configLink => exact ⟨_, rfl, .serve (reports_ownConfigLink s)⟩
  | readLink => exact ⟨_, rfl, .serve (reports_ownReadLink s)⟩
  | tally => exact ⟨_, rfl, .serve (reports_ownTally s)⟩
  | setVolumes => exact ⟨_, rfl, .serve (reports_ownSetVolumes s)⟩
  | listDeparted => exact ⟨_, rfl, .serve (reports_ownListDeparted s)⟩
  | forget => exact ⟨_, rfl, .serve (reports_ownForget s)⟩
  | getEvents => exact ⟨_, rfl, .serve (reports_ownGetEvents s)⟩
  | setMask => exact ⟨_, rfl, .serve (reports_ownSetMask s)⟩
  | shutdown => exact ⟨_, rfl, .serve fun r => reports_answerAfter (u := s.stop) (by nofun) (by nofun) s rfl r _ _⟩
  | restart => exact ⟨_, rfl, .serve (reports_ownRestart s)⟩
  | presenceAsserted k => exact ⟨_, rfl, .of_link (presenceRise_link s k)⟩
  | presenceDeasserted k => exact ⟨_, rfl, .of_link (presenceFall_link s k)⟩
  | presenceReasserted k => exact ⟨_, rfl, .of_link (presenceRise_link s k)⟩
  | seatTimerExpiry k => exact ⟨_, rfl, .of_link (whenInService_link s (ite_link s (by simp) rfl))⟩
  | removalTimerExpiry k => exact ⟨_, rfl, .of_link (whenInService_link s (ite_link s (tearDown_link s k) rfl))⟩
  | inkSenseChange k level =>
    exact ⟨_, rfl, .of_link (ite_link s rfl (whenInService_link (s.withInkInputs _) (ite_link (s.withInkInputs _) rfl rfl)))⟩
  | inkSettleExpiry k => exact ⟨_, rfl, .of_link (whenInService_link s (ite_link s (by simp) rfl))⟩
  | arbiterStartJob =>
    refine ⟨_, rfl, .of_link (whenInService_link s (ite_link s ?_ rfl))⟩
    split
    · simp
    · rfl
  | jobTransactionEnd how => exact ⟨_, rfl, .of_link (whenRunning_link s (onTransaction_link s fun j => endTransaction_link s j how))⟩
  | responsePoll =>
    exact ⟨_, rfl, .of_link (whenRunning_link s (onTransaction_link s fun j => ite_link s (pollResponse_link s j) rfl))⟩
  | responseReadEnd response =>
    exact ⟨_, rfl, .of_link (whenRunning_link s (onTransaction_link s fun j => ite_link s (endResponse_link s j response) rfl))⟩
  | pollTimerExpiry h => exact ⟨_, rfl, .of_link (whenRunning_link s rfl)⟩
  | retryTimerExpiry h => exact ⟨_, rfl, .of_link (whenRunning_link s rfl)⟩
  | writePhaseEnd acknowledged =>
    exact ⟨_, rfl, .of_link (whenRunning_link s (onTransaction_link s fun j => ite_link s (endWritePhase_link s j acknowledged) rfl))⟩
  | statusPoll => exact ⟨_, rfl, .of_link (whenRunning_link s (onStatus_link s fun j => pollStatus_link s j))⟩
  | statusPollWaitExpiry =>
    refine ⟨_, rfl, .of_link (whenRunning_link s ?_)⟩
    split
    · exact ite_link s (endStatusWait_link s _) rfl
    · rfl
  | statusRead status => exact ⟨_, rfl, .of_link (whenRunning_link s (onStatus_link s fun j => takeStatus_link s status j))⟩
  | jobCutAtByteBoundary => exact ⟨_, rfl, .of_link (whenRunning_link s (onTransaction_link s fun j => cutJob_link s j))⟩
  | arbitrationLost =>
    refine ⟨_, rfl, .of_link (whenRunning_link s ?_)⟩
    split
    · exact ite_link s (by simp) rfl
    · rfl
  | foreignStart => exact ⟨_, rfl, .of_link (whenRunning_link s (foreignStart_link s))⟩
  | stopCondition => exact ⟨_, rfl, .of_link (whenInService_link s (ite_link s (by simp) rfl))⟩
  | foreignTimeout => exact ⟨_, rfl, .of_link (whenInService_link s (ite_link s (by simp) rfl))⟩
  | stuckBus =>
    refine ⟨_, rfl, .of_link (whenInService_link s ?_)⟩
    split <;> simp
  | recoveryEnd high => exact ⟨_, rfl, .of_link (whenRunning_link s (ite_link s (by simp) rfl))⟩
  | faultRetryExpiry high => exact ⟨_, rfl, .of_link (whenInService_link s (ite_link s (by simp) rfl))⟩
  | verifyComputationStart => exact ⟨_, rfl, .of_link (whenInService_link s (by simp))⟩
  | verifyCompletion => exact ⟨_, rfl, .of_link (whenInService_link s (by simp))⟩
  | huntMatch => exact ⟨_, rfl, .of_link (whenInService_link s rfl)⟩
  | candidateTest => exact ⟨_, rfl, .of_link (whenInService_link s rfl)⟩
  | confirmTest => exact ⟨_, rfl, .of_link (whenInService_link s (confirmTest_link s))⟩
  | frameJudged => exact ⟨_, rfl, .of_link (whenInService_link s (judgeFrame_link s))⟩
  | framePositionComplete => exact ⟨_, rfl, .of_link (whenInService_link s rfl)⟩
  | cycleEnd => exact ⟨_, rfl, .of_link (whenInService_link s (endCycle_link s))⟩
  | cycleTimerExpiry => exact ⟨_, rfl, .of_link (whenInService_link s (cycleTimerExpires_link s))⟩
  | silenceTimerExpiry => exact ⟨_, rfl, .of_link (whenInService_link s (silenceExpires_link s))⟩
  | cycleComputation => exact ⟨_, rfl, .of_link (whenRunning_link s (computeCycle_link s))⟩
  | wDelivery k => exact ⟨_, rfl, .of_link (whenRunning_link s (takeDelivery_link s k))⟩
  | tlcEdge rising tld => exact ⟨_, rfl, .of_link (whenInService_link s (takeEdge_link s rising tld))⟩

/-- Settles O3: every command leaves the replies alone, drops some, or forms its one reply as it stands. -/
theorem everyReplyReportsThePart : Obligations.EveryReplyReportsThePart := by
  intro c s t r hgoes hr
  obtain ⟨t', ht', hreports⟩ := exec_reports c s
  obtain rfl : t' = t := Host.Outcome.next.inj (ht'.symm.trans hgoes)
  exact hreports r hr

end Sys2Proof.Laws
end

section
set_option Elab.async false
/-! PROOFS. The laws of lifecycle, context and revoked slots (TrustInv): what they read of a station, the operations that leave that alone, and
the operations that change it at one station. -/

namespace Sys2Proof.Laws

open Sys2Proof.Machine Sys2Proof.Safety

/-! ## The laws at one station -/

/-- The parts of a station in its lifecycle state, with its context (R7, R10, R21). -/
def StationAt (r : StationRec) (context : Option AuthContext) : Prop :=
  (r.cartridge = none ↔ (r.lifecycle = .vacant ∨ r.lifecycle = .seated)) ∧
  ((∃ c, r.cartridge = some c ∧ c.cause ≠ none) ↔ r.lifecycle = .quarantined) ∧
  (r.lifecycle = .identifying ∨ r.lifecycle = .authenticating → ∃ x, context = some x ∧ x.recheck = false) ∧
  (∀ x, context = some x → (x.recheck = true ∧ r.lifecycle = .active) ∨
    (x.recheck = false ∧ (r.lifecycle = .identifying ∨ r.lifecycle = .authenticating))) ∧
  (r.seatTimer = true → r.lifecycle = .seated) ∧
  (r.removalTimer = true → r.lifecycle ≠ .vacant ∧ r.lifecycle ≠ .seated)

/-- An ACTIVE station's cartridge does not name a REVOKED slot (R74). -/
def SlotAt (m : Retained) (r : StationRec) : Prop :=
  ∀ (k : KeySlot) (c : CartridgeRecord) (id : Identity), r.lifecycle = .active → r.cartridge = some c → c.identity = some id →
    id.keyIndex = k.val → (m.keySlots[k]).state ≠ .revoked

/-- What a VERIFY request asks of its station's record and context (R65, R68). -/
def RequestAt (r : StationRec) (context : Option AuthContext) (v : VerifyRequest) : Prop :=
  (∃ x, context = some x ∧ x.step = .verify) ∧
  ∃ c id, r.cartridge = some c ∧ c.identity = some id ∧ id.keyIndex = v.keyIndex

theorem trustInv_iff (s : State) : TrustInv s ↔ (∀ i, StationAt (s.station i) (s.context i)) ∧
    ((liveRequests s).Pairwise (fun a b => a.station ≠ b.station) ∧
      ∀ v ∈ liveRequests s, RequestAt (s.station v.station) (s.context v.station) v) ∧
    ∀ i, SlotAt s.store (s.station i) :=
  ⟨fun ⟨hstations, hverifies, hrevocations⟩ => ⟨hstations, hverifies, hrevocations⟩,
    fun ⟨hstations, hverifies, hrevocations⟩ => ⟨hstations, hverifies, hrevocations⟩⟩

/-! ## What the laws read -/

/-- What the laws read of a cartridge record. -/
def recordFace (c : CartridgeRecord) : Option QuarantineCause × Option Identity := (c.cause, c.identity)

/-- What the laws read of a context. -/
def contextFace (x : AuthContext) : AuthStep × Bool := (x.step, x.recheck)

/-- A record's change that the laws do not see: it may stop timers, and start the removal timer where a cartridge is held. -/
structure CalmRec (r r' : StationRec) : Prop where
  lifecycle : r'.lifecycle = r.lifecycle
  seat : r'.seatTimer = true → r.seatTimer = true
  removal : r'.removalTimer = true → r.removalTimer = true ∨ (r.lifecycle ≠ .vacant ∧ r.lifecycle ≠ .seated)
  record : r'.cartridge.map recordFace = r.cartridge.map recordFace

theorem CalmRec.refl (r : StationRec) : CalmRec r r := ⟨rfl, id, .inl, rfl⟩

theorem CalmRec.trans {r r' r'' : StationRec} (h : CalmRec r r') (h' : CalmRec r' r'') : CalmRec r r'' :=
  ⟨h'.lifecycle.trans h.lifecycle, h.seat ∘ h'.seat, fun ht => (h'.removal ht).elim h.removal (h.lifecycle ▸ .inr),
    h'.record.trans h.record⟩

/-- Two values of the same image: both absent, or both there. -/
theorem map_eq_cases {α β : Type} {f : α → β} {o o' : Option α} (h : o'.map f = o.map f) :
    (o = none ∧ o' = none) ∨ ∃ a a', o = some a ∧ o' = some a' ∧ f a' = f a := by
  cases o with
  | none => exact .inl ⟨rfl, by simpa using h⟩
  | some a =>
    obtain ⟨a', ha', hf⟩ := Option.map_eq_some_iff.mp h
    exact .inr ⟨a, a', rfl, ha', hf⟩

section
variable {r r' : StationRec} (h : CalmRec r r')
include h

theorem CalmRec.cause_iff : (∃ c, r'.cartridge = some c ∧ c.cause ≠ none) ↔ ∃ c, r.cartridge = some c ∧ c.cause ≠ none := by
  rcases map_eq_cases h.record with ⟨hr, hr'⟩ | ⟨c, c', hr, hr', hface⟩
  · simp [hr, hr']
  · have hcause : c'.cause = c.cause := congrArg Prod.fst hface
    simp [hr, hr', hcause]

theorem CalmRec.identified {id : Identity} : (∃ c, r'.cartridge = some c ∧ c.identity = some id) ↔
    ∃ c, r.cartridge = some c ∧ c.identity = some id := by
  rcases map_eq_cases h.record with ⟨hr, hr'⟩ | ⟨c, c', hr, hr', hface⟩
  · simp [hr, hr']
  · have hidentity : c'.identity = c.identity := congrArg Prod.snd hface
    simp [hr, hr', hidentity]

theorem CalmRec.none_iff : r'.cartridge = none ↔ r.cartridge = none := by
  rw [← Option.map_eq_none_iff (f := recordFace), h.record, Option.map_eq_none_iff]

theorem CalmRec.stationAt {x x' : Option AuthContext} (hx : x'.map (·.recheck) = x.map (·.recheck)) (hat : StationAt r x) :
    StationAt r' x' := by
  obtain ⟨hnone, hcause, hwaits, hcontext, hseat, hremoval⟩ := hat
  refine ⟨h.none_iff.trans (h.lifecycle ▸ hnone), h.cause_iff.trans (h.lifecycle ▸ hcause), fun hl => ?_, fun y' hy' => ?_,
    fun ht => h.lifecycle ▸ hseat (h.seat ht), fun ht => h.lifecycle ▸ (h.removal ht).elim hremoval id⟩
  · obtain ⟨y, hy, hrecheck⟩ := hwaits (h.lifecycle ▸ hl)
    rw [hy, Option.map_some, hrecheck] at hx
    exact Option.map_eq_some_iff.mp hx
  · rw [hy', Option.map_some] at hx
    obtain ⟨y, hy, hrecheck⟩ := Option.map_eq_some_iff.mp hx.symm
    rw [h.lifecycle, ← hrecheck]
    exact hcontext y hy

theorem CalmRec.slotAt {m m' : Retained} (hm : m'.keySlots = m.keySlots) (hat : SlotAt m r) : SlotAt m' r' := by
  intro k c' id hl hc' hid' hk
  obtain ⟨c, hc, hid⟩ := h.identified.1 ⟨c', hc', hid'⟩
  rw [hm]
  exact hat k c id (h.lifecycle ▸ hl) hc hid hk

theorem CalmRec.requestAt {x x' : Option AuthContext} (hx : x'.map contextFace = x.map contextFace) {v : VerifyRequest}
    (hat : RequestAt r x v) : RequestAt r' x' v := by
  obtain ⟨⟨y, hy, hstep⟩, c, id, hc, hid, hk⟩ := hat
  obtain ⟨c', hc', hid'⟩ := h.identified.2 ⟨c, hc, hid⟩
  rcases map_eq_cases hx with ⟨hnone, -⟩ | ⟨z, z', hz, hz', hface⟩
  · exact absurd (hy.symm.trans hnone) (by simp)
  · obtain rfl : y = z := Option.some.inj (hy.symm.trans hz)
    exact ⟨⟨z', hz', (congrArg Prod.fst hface).trans hstep⟩, c', id, hc', hid', hk⟩

end

/-! ## Operations that the laws do not see -/

/-- What an operation leads to that leaves alone all that the laws read, but for timers and VERIFY requests that go. -/
structure Calm (s t : State) : Prop where
  records : ∀ i, CalmRec (s.station i) (t.station i)
  contexts : ∀ i, (t.context i).map contextFace = (s.context i).map contextFace
  live : (liveRequests t).Sublist (liveRequests s)
  keys : t.store.keySlots = s.store.keySlots

/-- What an operation leads to that keeps the laws. -/
abbrev Kept (s t : State) : Prop := TrustInv s → TrustInv t

theorem Calm.kept {s t : State} (h : Calm s t) : Kept s t := by
  intro hs
  obtain ⟨hstations, ⟨hpairs, hrequests⟩, hslots⟩ := (trustInv_iff s).1 hs
  have hrechecks : ∀ i, (t.context i).map (·.recheck) = (s.context i).map (·.recheck) := fun i => by
    have hfaces := congrArg (Option.map Prod.snd) (h.contexts i)
    rwa [Option.map_map, Option.map_map] at hfaces
  exact (trustInv_iff t).2 ⟨fun i => (h.records i).stationAt (hrechecks i) (hstations i),
    ⟨hpairs.sublist h.live, fun v hv => (h.records _).requestAt (h.contexts _) (hrequests v (h.live.subset hv))⟩,
    fun i => (h.records i).slotAt h.keys (hslots i)⟩

theorem liveRequests_congr {s t : State} (hcomputing : t.auth.computing = s.auth.computing) (hfifo : t.auth.fifo = s.auth.fifo) :
    liveRequests t = liveRequests s := by
  rw [liveRequests, liveRequests, hcomputing, hfifo]

theorem setContext_context_other {s : State} {i k : Station} (h : k ≠ i) (x : Option AuthContext) :
    (s.setContext i x).context k = s.context k := Vector.getElem_set_ne i.isLt k.isLt fun hik => h (Fin.ext hik.symm)

namespace Calm

variable {s t u : State}

theorem refl (s : State) : Calm s s := ⟨fun _ => .refl _, fun _ => rfl, .refl _, rfl⟩

theorem trans (h : Calm s t) (h' : Calm t u) : Calm s u :=
  ⟨fun i => (h.records i).trans (h'.records i), fun i => (h'.contexts i).trans (h.contexts i), h'.live.trans h.live,
    h'.keys.trans h.keys⟩

theorem ite {p : Prop} [Decidable p] (ht : Calm s t) (hu : Calm s u) : Calm s (if p then t else u) := by
  split_ifs
  · exact ht
  · exact hu

/-- An operation on the rest of the part. -/
theorem untouched (hstations : t.stations = s.stations := by simp) (hauth : t.auth = s.auth := by simp)
    (hstore : t.store = s.store := by simp) : Calm s t :=
  ⟨fun i => by rw [station_congr hstations]; exact .refl _, fun i => by rw [context_congr hauth],
    by rw [liveRequests_congr (s := s) (t := t) (by rw [hauth]) (by rw [hauth])], by rw [hstore]⟩

/-- A change of one station's record that the laws do not see. -/
theorem modStation {i : Station} {f : StationRec → StationRec} (hf : CalmRec (s.station i) (f (s.station i))) :
    Calm s (s.modStation i f) := by
  refine ⟨fun k => ?_, fun _ => rfl, .refl _, rfl⟩
  rw [modStation_station]
  by_cases hk : k = i
  · subst hk
    rwa [if_pos rfl]
  · rw [if_neg hk]
    exact .refl _

/-- A change of one station's cartridge record that the laws do not see. -/
theorem modCartridge {i : Station} {f : CartridgeRecord → CartridgeRecord} (hf : ∀ c, recordFace (f c) = recordFace c) :
    Calm s (s.modCartridge i f) := by
  refine modStation ⟨rfl, id, .inl, ?_⟩
  simp only [Option.map_map]
  exact congrArg (Option.map · (s.station i).cartridge) (funext hf)

/-- A context's change that the laws do not see. -/
theorem setContext {i : Station} {x x' : AuthContext} (hx : s.context i = some x) (hface : contextFace x' = contextFace x) :
    Calm s (s.setContext i (some x')) := by
  refine ⟨fun _ => .refl _, fun k => ?_, .refl _, rfl⟩
  by_cases hk : k = i
  · subst hk
    rw [setContext_context, hx, Option.map_some, Option.map_some, hface]
  · rw [setContext_context_other hk]

end Calm

/-! ## Changes of the laws at one station -/

/-- No VERIFY request that can complete is the station's. -/
def NoRequest (s : State) (i : Station) : Prop := ∀ v ∈ liveRequests s, v.station ≠ i

theorem noRequest_of_context {s : State} {i : Station} (h : TrustInv s) (hx : ∀ x, s.context i = some x → x.step ≠ .verify) :
    NoRequest s i := by
  intro v hv hi
  obtain ⟨⟨x, hcontext, hstep⟩, -⟩ := h.verifies.2 v hv
  exact hx x (hi ▸ hcontext) hstep

/-- Two states alike but at one station, the later with no more VERIFY requests. -/
structure AlikeBut (i : Station) (s t : State) : Prop where
  station : ∀ k, k ≠ i → t.station k = s.station k
  context : ∀ k, k ≠ i → t.context k = s.context k
  live : (liveRequests t).Sublist (liveRequests s)
  keys : t.store.keySlots = s.store.keySlots

namespace AlikeBut

variable {i : Station} {s t u : State}

theorem refl (i : Station) (s : State) : AlikeBut i s s := ⟨fun _ _ => rfl, fun _ _ => rfl, .refl _, rfl⟩

theorem trans (h : AlikeBut i s t) (h' : AlikeBut i t u) : AlikeBut i s u :=
  ⟨fun k hk => (h'.station k hk).trans (h.station k hk), fun k hk => (h'.context k hk).trans (h.context k hk), h'.live.trans h.live,
    h'.keys.trans h.keys⟩

theorem modStation (s : State) (f : StationRec → StationRec) : AlikeBut i s (s.modStation i f) :=
  ⟨fun _ hk => modStation_station_other hk f, fun _ _ => rfl, .refl _, rfl⟩

theorem setContext (s : State) (x : Option AuthContext) : AlikeBut i s (s.setContext i x) :=
  ⟨fun _ _ => rfl, fun _ hk => setContext_context_other hk x, .refl _, rfl⟩

/-- An operation on the rest of the part. -/
theorem untouched (hstations : t.stations = s.stations := by simp) (hauth : t.auth = s.auth := by simp)
    (hstore : t.store = s.store := by simp) : AlikeBut i s t :=
  ⟨fun _ _ => station_congr hstations, fun _ _ => context_congr hauth,
    by rw [liveRequests_congr (s := s) (t := t) (by rw [hauth]) (by rw [hauth])], by rw [hstore]⟩

/-- The laws hold of the later state, where they hold at the station and no VERIFY request of it can complete. -/
theorem trustInv (h : AlikeBut i s t) (hs : TrustInv s) (hat : StationAt (t.station i) (t.context i)) (hnone : NoRequest t i)
    (hslot : SlotAt t.store (t.station i)) : TrustInv t := by
  obtain ⟨hstations, ⟨hpairs, hrequests⟩, hslots⟩ := (trustInv_iff s).1 hs
  refine (trustInv_iff t).2 ⟨fun k => ?_, ⟨hpairs.sublist h.live, fun v hv => ?_⟩, fun k => ?_⟩
  · by_cases hk : k = i
    · subst hk
      exact hat
    · rw [h.station k hk, h.context k hk]
      exact hstations k
  · rw [h.station _ (hnone v hv), h.context _ (hnone v hv)]
    exact hrequests v (h.live.subset hv)
  · by_cases hk : k = i
    · subst hk
      exact hslot
    · rw [h.station k hk]
      exact (CalmRec.refl _).slotAt h.keys (hslots k)

end AlikeBut

end Sys2Proof.Laws
end

section
set_option Elab.async false
/-! PROOFS. The laws of lifecycle, context and revoked slots: the station controller's and the authentication engine's operations. -/

namespace Sys2Proof.Laws

open Sys2Proof.Machine Sys2Proof.Safety

/-! ## The abandonment of a context (R8, R44, R69) -/

section
variable (s : State) (i : Station)

/-- A withdrawal takes the station's requests out of those that can complete (R69). -/
theorem liveRequests_withdrawVerify (t : State) (h : t.auth.computing = (s.auth.withdrawVerify i).computing)
    (hf : t.auth.fifo = (s.auth.withdrawVerify i).fifo) : liveRequests t = (liveRequests s).filter (fun v => v.station != i) := by
  rw [liveRequests, h, hf, liveRequests, List.filter_append, Auth.withdrawVerify]
  dsimp only
  cases hc : s.auth.computing with
  | none => rfl
  | some c =>
    rw [Option.map_some]
    by_cases hi : c.request.station = i
    · rw [if_pos hi]
      cases hw : c.withdrawn <;> simp [hi]
    · rw [if_neg hi]
      cases hw : c.withdrawn <;> simp [hi, hw]

theorem noRequest_filter {t : State} (h : liveRequests t = (liveRequests s).filter (fun v => v.station != i)) : NoRequest t i := by
  intro v hv
  rw [h, List.mem_filter] at hv
  simpa using hv.2

theorem abandonContext_context : (s.abandonContext i).context i = none := by
  unfold State.abandonContext
  split
  · assumption
  · exact setContext_context _ i none

theorem abandonContext_alikeBut : AlikeBut i s (s.abandonContext i) := by
  refine ⟨fun k _ => station_congr (by simp), fun k hk => ?_, ?_, by simp⟩
  · unfold State.abandonContext
    split
    · rfl
    · exact setContext_context_other hk none
  · unfold State.abandonContext
    split
    · exact .refl _
    · rw [liveRequests_withdrawVerify s i (State.setContext _ i none) rfl rfl]
      exact List.filter_sublist

theorem abandonContext_noRequest (hnone : s.context i = none → NoRequest s i) : NoRequest (s.abandonContext i) i := by
  unfold State.abandonContext
  split
  · rename_i h
    exact hnone h
  · exact noRequest_filter s i (liveRequests_withdrawVerify s i _ rfl rfl)

end

section
variable {s : State} {i : Station}

theorem noRequest_of_no_context (h : TrustInv s) (hx : s.context i = none) : NoRequest s i :=
  noRequest_of_context h fun x hsome => absurd (hx.symm.trans hsome) (by simp)

/-! ## The parts of a station by its lifecycle state (R7, R10, R21) -/

section
variable {r : StationRec} {c : CartridgeRecord} (hc : r.cartridge = some c) (hseat : r.seatTimer = false)
include hc hseat

theorem stationAt_quarantined (hl : r.lifecycle = .quarantined) (hcause : c.cause ≠ none) : StationAt r none := by
  simp [StationAt, hc, hl, hcause, hseat]

/-- A station without a context: ACTIVE, DEPARTING or RELEASED. -/
theorem stationAt_settled (hl : r.lifecycle = .active ∨ r.lifecycle = .departing ∨ r.lifecycle = .released) (hcause : c.cause = none) :
    StationAt r none := by
  rcases hl with hl | hl | hl <;> simp [StationAt, hc, hl, hcause, hseat]

/-- A station under its first authentication. -/
theorem stationAt_identifying {x : AuthContext} (hl : r.lifecycle = .identifying ∨ r.lifecycle = .authenticating) (hx : x.recheck = false)
    (hcause : c.cause = none) : StationAt r (some x) := by
  rcases hl with hl | hl <;> simp [StationAt, hc, hl, hcause, hseat, hx]

/-- A station under a recheck. -/
theorem stationAt_recheck {x : AuthContext} (hl : r.lifecycle = .active) (hx : x.recheck = true) (hcause : c.cause = none) :
    StationAt r (some x) := by
  simp [StationAt, hc, hl, hcause, hseat, hx]

end

/-- A station that holds no cartridge. -/
theorem stationAt_empty {r : StationRec} (hc : r.cartridge = none) (hremoval : r.removalTimer = false)
    (hl : r.lifecycle = .seated ∨ (r.lifecycle = .vacant ∧ r.seatTimer = false)) : StationAt r none := by
  rcases hl with hl | ⟨hl, hseat⟩
  · simp [StationAt, hc, hremoval, hl]
  · simp [StationAt, hc, hremoval, hl, hseat]

section
variable (h : TrustInv s)
include h

theorem seatTimer_eq_false (hl : (s.station i).lifecycle ≠ .seated) : (s.station i).seatTimer = false := by
  obtain ⟨-, -, -, -, hseat, -⟩ := h.stations i
  exact Bool.eq_false_iff.mpr (hl ∘ hseat)

theorem removalTimer_eq_false (hl : (s.station i).lifecycle = .vacant ∨ (s.station i).lifecycle = .seated) :
    (s.station i).removalTimer = false := by
  obtain ⟨-, -, -, -, -, hremoval⟩ := h.stations i
  refine Bool.eq_false_iff.mpr fun ht => ?_
  obtain ⟨hvacant, hseated⟩ := hremoval ht
  exact hl.elim hvacant hseated

/-- A station that holds a cartridge has a record (R7). -/
theorem exists_cartridge (hvacant : (s.station i).lifecycle ≠ .vacant) (hseated : (s.station i).lifecycle ≠ .seated) :
    ∃ c, (s.station i).cartridge = some c := by
  obtain ⟨hnone, -⟩ := h.stations i
  exact Option.ne_none_iff_exists'.1 fun hc => (hnone.1 hc).elim hvacant hseated

theorem lifecycle_of_cartridge {c : CartridgeRecord} (hc : (s.station i).cartridge = some c) :
    (s.station i).lifecycle ≠ .vacant ∧ (s.station i).lifecycle ≠ .seated := by
  obtain ⟨hnone, -⟩ := h.stations i
  rw [← not_or, ← hnone, hc]
  simp

theorem cause_eq_none {c : CartridgeRecord} (hc : (s.station i).cartridge = some c) (hl : (s.station i).lifecycle ≠ .quarantined) :
    c.cause = none := by
  obtain ⟨-, hcause, -⟩ := h.stations i
  by_contra hne
  exact hl (hcause.1 ⟨c, hc, hne⟩)

/-- Only stations under an authentication have a context (R7). -/
theorem context_eq_none (hl : (s.station i).lifecycle ≠ .active) (hl' : (s.station i).lifecycle ≠ .identifying)
    (hl'' : (s.station i).lifecycle ≠ .authenticating) : s.context i = none := by
  obtain ⟨-, -, -, hcontext, -⟩ := h.stations i
  refine Option.eq_none_iff_forall_ne_some.2 fun x hx => ?_
  rcases hcontext x hx with ⟨-, h⟩ | ⟨-, h | h⟩
  · exact hl h
  · exact hl' h
  · exact hl'' h

/-- A station with a context holds a cartridge without a cause. -/
theorem record_of_context {x : AuthContext} (hx : s.context i = some x) :
    ∃ c, (s.station i).cartridge = some c ∧ c.cause = none := by
  obtain ⟨-, -, -, hcontext, -⟩ := h.stations i
  have hl : (s.station i).lifecycle = .active ∨ (s.station i).lifecycle = .identifying ∨ (s.station i).lifecycle = .authenticating :=
    (hcontext x hx).imp And.right And.right
  obtain ⟨c, hc⟩ := exists_cartridge (i := i) h (by rcases hl with hl | hl | hl <;> simp [hl]) (by rcases hl with hl | hl | hl <;> simp [hl])
  exact ⟨c, hc, cause_eq_none h hc (by rcases hl with hl | hl | hl <;> simp [hl])⟩

end

theorem slotAt_of_inactive {m : Retained} {r : StationRec} (hl : r.lifecycle ≠ .active) : SlotAt m r :=
  fun _ _ _ hactive => absurd hactive hl

/-! ## Moves of a station -/

/-- The record names no key slot that is REVOKED. -/
def NamesNoRevoked (m : Retained) (c : CartridgeRecord) : Prop :=
  ∀ (k : KeySlot) (id : Identity), c.identity = some id → id.keyIndex = k.val → (m.keySlots[k]).state ≠ .revoked

section
variable {t : State} (hother : AlikeBut i s t) (h : TrustInv s) {c : CartridgeRecord} (hc : (t.station i).cartridge = some c)
  (hseat : (t.station i).seatTimer = false)
include hother h hc hseat

/-- The entry to QUARANTINED of a station that has a record, from a state that has the laws but at the station (R8). -/
theorem AlikeBut.trustInv_enterQuarantined (hnone : t.context i = none → NoRequest t i) (cause : QuarantineCause) :
    TrustInv (t.enterQuarantined i cause) := by
  have hstation : (t.enterQuarantined i cause).station i = (t.station i).quarantined cause := by
    rw [station_congr (s := t.modStation i (StationRec.quarantined cause)) (by simp [State.enterQuarantined]), modStation_station_same]
  have hcontext : (t.enterQuarantined i cause).context i = none := abandonContext_context _ i
  have halike : AlikeBut i s (t.enterQuarantined i cause) :=
    ((hother.trans (.modStation t (StationRec.quarantined cause))).trans (abandonContext_alikeBut _ i)).trans
      (.untouched (s := (t.modStation i (StationRec.quarantined cause)).abandonContext i)
        (t := ((t.modStation i (StationRec.quarantined cause)).abandonContext i).raise .quarantined (some i) (causeCode cause)))
  refine halike.trustInv h ?_ (abandonContext_noRequest (t.modStation i (StationRec.quarantined cause)) i hnone) ?_
  · rw [hstation, hcontext]
    exact stationAt_quarantined (c := { c with cause := some cause }) (by simp [StationRec.quarantined, hc]) hseat rfl (by simp)
  · rw [hstation]
    exact slotAt_of_inactive nofun

/-- The entry to ACTIVE of a station without a context, up to its activation transfer (R9). -/
theorem AlikeBut.trustInv_activated (hslots : NamesNoRevoked t.store c) (hx : t.context i = none) (hnone : NoRequest t i) :
    TrustInv (t.modStation i StationRec.activated) := by
  have hcart : (StationRec.activated (t.station i)).cartridge = some { c with cause := none } := by simp [StationRec.activated, hc]
  refine (hother.trans (.modStation t StationRec.activated)).trustInv h ?_ hnone ?_
  · rw [modStation_station_same, modStation_context, hx]
    exact stationAt_settled hcart hseat (.inl rfl) rfl
  · rw [modStation_station_same]
    intro k c' id _ hc' hid hk
    obtain rfl := Option.some.inj (hcart.symm.trans hc')
    exact hslots k id hid hk

end

/-- The entry to QUARANTINED of a station that has a record (R8). -/
theorem kept_enterQuarantined {c : CartridgeRecord} (hc : (s.station i).cartridge = some c) (cause : QuarantineCause) :
    Kept s (s.enterQuarantined i cause) := fun h =>
  (AlikeBut.refl i s).trustInv_enterQuarantined h hc (seatTimer_eq_false h (lifecycle_of_cartridge h hc).2) (noRequest_of_no_context h) cause

/-- A change of one station's record alone, where no VERIFY request of the station can complete. -/
theorem trustInv_modStation (h : TrustInv s) {f : StationRec → StationRec} (hx : ∀ x, s.context i = some x → x.step ≠ .verify)
    (hat : StationAt (f (s.station i)) (s.context i)) (hslot : SlotAt s.store (f (s.station i))) : TrustInv (s.modStation i f) := by
  refine (AlikeBut.modStation s f).trustInv h ?_ (noRequest_of_context h hx : NoRequest s i) ?_
  · rw [modStation_station_same]
    exact hat
  · rw [modStation_station_same]
    exact hslot

/-- A change of the record of a station that has no context. -/
theorem trustInv_modStation_of_no_context (h : TrustInv s) {f : StationRec → StationRec} (hx : s.context i = none)
    (hat : StationAt (f (s.station i)) none) (hslot : SlotAt s.store (f (s.station i))) : TrustInv (s.modStation i f) :=
  trustInv_modStation h (fun x hsome => absurd (hx.symm.trans hsome) (by simp)) (by rwa [hx]) hslot

/-! ## Evidence, charges and their checks -/

theorem calm_raise (s : State) (k : EventKind) (p : Place) (v : Nat) : Calm s (s.raise k p v) := .untouched

theorem calm_writeCheckpoint (s : State) (i : Station) : Calm s (s.writeCheckpoint i) := .untouched

theorem calm_testWriteBack (s : State) (i : Station) : Calm s (s.testWriteBack i) := .untouched

theorem kept_applyRefillPolicy (s : State) (i : Station) : Kept s (s.applyRefillPolicy i) := by
  intro h
  unfold State.applyRefillPolicy
  split
  · rename_i hl
    obtain ⟨c, hc⟩ := exists_cartridge (i := i) h (by simp [hl]) (by simp [hl])
    exact kept_enterQuarantined hc .refill h
  · exact h

theorem applyRefillPolicy_of_inactive (hl : (s.station i).lifecycle ≠ .active) : s.applyRefillPolicy i = s := by
  unfold State.applyRefillPolicy
  split
  · rename_i hactive
    exact absurd hactive hl
  · rfl

/-- Evidence noted, up to the policy: the laws do not see it. -/
theorem recordEvidence_eq_policy (s : State) (i : Station) (k : EvidenceKind) :
    ∃ t, Calm s t ∧ (s.recordEvidence i k = t ∨ s.recordEvidence i k = t.applyRefillPolicy i) := by
  cases hc : (s.station i).cartridge with
  | none => exact ⟨s, .refl s, .inl (by simp only [State.recordEvidence, hc])⟩
  | some c =>
    by_cases hauth : c.authenticated = true
    · have hnoted : Calm s (s.modCartridge i (CartridgeRecord.withEvidence k)) := .modCartridge fun _ => rfl
      have htested := Calm.ite (p := c.refillMark = true) hnoted (hnoted.trans (calm_testWriteBack _ i))
      have hwritten := Calm.ite (p := c.withEvidence k = c) htested
        (htested.trans (calm_writeCheckpoint _ i))
      exact ⟨_, hwritten.trans (calm_raise _ .refillSuspected (some i) (evidenceCode k)), .inr (by
        simp only [State.recordEvidence, hc, hauth, if_true])⟩
    · exact ⟨_, .trans (t := s.modCartridge i (CartridgeRecord.withProvisionalEvidence k)) (.modCartridge fun _ => rfl)
        (calm_raise _ .refillSuspected (some i) (evidenceCode k)), .inl (by
        simp only [State.recordEvidence, hc, if_neg hauth])⟩

theorem kept_recordEvidence (s : State) (i : Station) (k : EvidenceKind) : Kept s (s.recordEvidence i k) := by
  intro h
  obtain ⟨t, hcalm, heq | heq⟩ := recordEvidence_eq_policy s i k <;> rw [heq]
  · exact hcalm.kept h
  · exact kept_applyRefillPolicy t i (hcalm.kept h)

/-- Evidence outside ACTIVE: the policy has nothing to do. -/
theorem calm_recordEvidence (hl : (s.station i).lifecycle ≠ .active) (k : EvidenceKind) : Calm s (s.recordEvidence i k) := by
  obtain ⟨t, hcalm, heq | heq⟩ := recordEvidence_eq_policy s i k <;> rw [heq]
  · exact hcalm
  · rw [applyRefillPolicy_of_inactive ((hcalm.records i).lifecycle ▸ hl)]
    exact hcalm

end
end Sys2Proof.Laws
end

section
set_option Elab.async false
/-! PROOFS. The laws of lifecycle, context and revoked slots: charges, entries to a state, removal, and the authentication engine. -/

namespace Sys2Proof.Laws

open Sys2Proof.Machine Sys2Proof.Safety

/-! ## Charges and their checks -/

section
variable (s : State) (i : Station)

theorem calm_noteBand (held : Option LevelBand) (b : LevelBand) : Calm s (s.noteBand i held b) :=
  .ite (.refl s) (.ite (.modCartridge fun _ => rfl)
    (.trans (t := s.modCartridge i (fun c => { c with band := some b, bandChanged := true })) (.modCartridge fun _ => rfl) (calm_raise _ _ _ _)))

theorem calm_noteEmpty (c : CartridgeRecord) (used : Nat) : Calm s (s.noteEmpty i c used) := by
  have hnoted : Calm s ((s.modCartridge i (fun c => { c with emptyLatch := true, emptyRaised := true })).raise .cartridgeEmpty (some i) used) :=
    .trans (t := s.modCartridge i (fun c => { c with emptyLatch := true, emptyRaised := true })) (.modCartridge fun _ => rfl) (calm_raise _ _ _ _)
  exact .ite (.refl s) (.ite hnoted (hnoted.trans (calm_testWriteBack _ i)))

theorem calm_computeBand : Calm s (s.computeBand i) := by
  unfold State.computeBand
  split
  · exact .refl s
  · split
    · exact .ite ((calm_noteBand s i _ _).trans (calm_noteEmpty _ i _ _)) (calm_noteBand s i _ _)
    · exact .refl s

theorem kept_testOverdraw : Kept s (s.testOverdraw i) := by
  unfold State.testOverdraw
  split
  · exact id
  · split
    · split_ifs
      · have hnoted : Calm s (s.modCartridge i (fun c => { c with overdrawRaised := true })) := .modCartridge fun _ => rfl
        exact fun h => kept_recordEvidence _ i _ (hnoted.kept h)
      · exact id
    · exact id

theorem kept_chargeChecks : Kept s (s.chargeChecks i) := fun h =>
  (calm_testWriteBack _ i).kept (kept_testOverdraw _ i ((calm_computeBand s i).kept h))

theorem calm_chargeFigures (w : Nat) : Calm s (s.chargeFigures i w) := by
  have hcharged : Calm s (s.modStation i (StationRec.charge w)) := by
    refine .modStation ⟨rfl, id, .inl, ?_⟩
    rw [StationRec.charge, Option.map_map]
    rfl
  unfold State.chargeFigures
  dsimp only
  split
  · exact .ite hcharged (hcharged.trans (calm_raise _ _ _ _))
  · exact hcharged

theorem kept_chargeCartridge (w : Nat) : Kept s (s.chargeCartridge i w) := fun h =>
  kept_chargeChecks _ i ((calm_chargeFigures s i w).kept h)

theorem calm_raiseCondition (c : Condition) (v : Nat) : Calm s (s.raiseCondition c v) := .untouched

theorem calm_endCondition (c : Condition) : Calm s (s.endCondition c) := .untouched

theorem calm_chargeDebt (w : Nat) : Calm s (s.chargeDebt i w) := by
  have hcharged : Calm s (s.modStation i (StationRec.chargeDebt w)) := .modStation ⟨rfl, id, .inl, rfl⟩
  exact .ite (hcharged.trans (calm_raiseCondition _ _ _)) hcharged

theorem kept_takeDelivery : Kept s (s.takeDelivery i) := by
  unfold State.takeDelivery
  split
  · rename_i w others _
    intro h
    have htaken := (Calm.untouched (s := s) (t := s.withMeter { s.meter with deliveries := others })).kept h
    unfold State.routeDelivery
    split_ifs
    · exact kept_chargeCartridge _ i _ htaken
    · exact (calm_chargeDebt _ i _).kept htaken
  · exact id

theorem kept_activationTransfer : Kept s (s.activationTransfer i) := by
  have hcleared : Calm s ((s.chargeFigures i (s.station i).meter.debt).modStation i StationRec.clearDebt) :=
    (calm_chargeFigures s i _).trans (.modStation ⟨rfl, id, .inl, rfl⟩)
  have hended := Calm.ite (p := 0 < (s.station i).config.swapReserve) (hcleared.trans (calm_endCondition _ (.reservoirDry i))) hcleared
  exact fun h => kept_chargeChecks _ i (hended.kept h)

end

section
variable {s : State} {i : Station} (h : TrustInv s)
include h

/-! ## Entries to a state -/

/-- The entry to ACTIVE, from a state that has the laws but at the station (R9). -/
theorem AlikeBut.trustInv_enterActive {t : State} (hother : AlikeBut i s t) {c : CartridgeRecord} (hc : (t.station i).cartridge = some c)
    (hseat : (t.station i).seatTimer = false) (hslots : NamesNoRevoked t.store c) (hx : t.context i = none) (hnone : NoRequest t i) :
    TrustInv (t.enterActive i) :=
  (calm_raise _ _ _ _).kept (kept_activationTransfer _ i (hother.trustInv_activated h hc hseat hslots hx hnone))

/-- The entry to ACTIVE of a station without a context (R9). -/
theorem trustInv_enterActive {c : CartridgeRecord} (hc : (s.station i).cartridge = some c) (hslots : NamesNoRevoked s.store c)
    (hx : s.context i = none) : TrustInv (s.enterActive i) :=
  (AlikeBut.refl i s).trustInv_enterActive h hc (seatTimer_eq_false h (lifecycle_of_cartridge h hc).2) hslots hx (noRequest_of_no_context h hx)

/-- A context at READ joins a station without one (R11, R63, R78). -/
theorem trustInv_startContext {f : StationRec → StationRec} {recheck : Bool} (hx : s.context i = none)
    (hat : ∀ x : AuthContext, x.recheck = recheck → StationAt (f (s.station i)) (some x)) (hslot : SlotAt s.store (f (s.station i))) :
    TrustInv ((s.modStation i f).startContext i recheck) := by
  have hstations : ((s.modStation i f).startContext i recheck).stations = (s.modStation i f).stations := by simp
  have hlive : liveRequests ((s.modStation i f).startContext i recheck) = liveRequests s := by
    unfold State.startContext
    dsimp only
    split_ifs <;> rfl
  have hcontext : ∀ k, ((s.modStation i f).startContext i recheck).context k = if k = i then
      some ⟨.read, recheck, 1, none, none, none, (s.modStation i f).bus.jobs.any (Job.isAuthOf i)⟩ else s.context k := by
    intro k
    have hset : ((s.modStation i f).startContext i recheck).context k = ((s.modStation i f).setContext i
        (some ⟨.read, recheck, 1, none, none, none, (s.modStation i f).bus.jobs.any (Job.isAuthOf i)⟩)).context k := by
      unfold State.startContext
      dsimp only
      split_ifs <;> rfl
    rw [hset]
    by_cases hk : k = i
    · subst hk
      rw [setContext_context, if_pos rfl]
    · rw [setContext_context_other hk, if_neg hk]
      rfl
  have hnone : NoRequest ((s.modStation i f).startContext i recheck) i := fun v hv =>
    noRequest_of_no_context h hx v (hlive ▸ hv)
  have halike : AlikeBut i s ((s.modStation i f).startContext i recheck) :=
    ⟨fun k hk => by rw [station_congr hstations, modStation_station_other hk], fun k hk => by rw [hcontext, if_neg hk],
      hlive ▸ .refl _, by simp⟩
  refine halike.trustInv h ?_ hnone ?_
  · rw [station_congr hstations, modStation_station_same, hcontext, if_pos rfl]
    exact hat _ rfl
  · rw [station_congr hstations, modStation_station_same]
    simpa using hslot

/-- A new holding begins (R11). -/
theorem trustInv_enterIdentifying (hx : s.context i = none) : TrustInv (s.enterIdentifying i) :=
  trustInv_startContext h hx (fun _ hr => stationAt_identifying rfl rfl (.inl rfl) hr rfl) (slotAt_of_inactive nofun)

/-- A recheck begins (R78). -/
theorem trustInv_startRecheck (hl : (s.station i).lifecycle = .active) (hx : s.context i = none) : TrustInv (s.startContext i true) := by
  obtain ⟨c, hc⟩ := exists_cartridge (i := i) h (by simp [hl]) (by simp [hl])
  have hself : s.modStation i id = s := setStation_self s i
  have hstarted := trustInv_startContext (f := id) h hx (fun _ hr => stationAt_recheck hc (seatTimer_eq_false h (by simp [hl])) hl hr
    (cause_eq_none h hc (by simp [hl]))) (h.revocations i)
  rwa [hself] at hstarted

end
end Sys2Proof.Laws
end

section
set_option Elab.async false
/-! PROOFS. The laws of lifecycle, context and revoked slots: the authentication engine (chapter 4). -/

namespace Sys2Proof.Laws

open Sys2Proof.Machine Sys2Proof.Safety

/-! ## Attempts (R64 to R66) -/

theorem calm_enqueue (s : State) (j : Job) : Calm s (s.enqueue j) := .untouched

section
variable {s : State} {i : Station} {x y : AuthContext} (h : TrustInv s) (hx : s.context i = some x) (hnone : NoRequest s i)
include h hx hnone

/-- A context goes on, where no VERIFY request of the station can complete. -/
theorem trustInv_setContext (hr : y.recheck = x.recheck) : TrustInv (s.setContext i (some y)) := by
  refine (AlikeBut.setContext s (some y)).trustInv h ?_ hnone (h.revocations i)
  rw [setContext_context]
  exact (CalmRec.refl (s.station i)).stationAt (x := some x) (by rw [Option.map_some, Option.map_some, hr]) (hx ▸ h.stations i)

theorem trustInv_beginAttempt (hr : y.recheck = x.recheck) : TrustInv (s.beginAttempt i y) := by
  have hdrawn : TrustInv (s.withDraws (s.draws + 1)) := (Calm.untouched (s := s)).kept h
  exact (calm_enqueue _ _).kept (trustInv_setContext (y := y.challenged (Config.randomDraw s.draws)) hdrawn hx hnone hr)

theorem trustInv_endAttempt (e : AttemptEnding) : TrustInv (s.endAttempt i x e) := by
  unfold State.endAttempt
  split_ifs
  · exact trustInv_beginAttempt h hx hnone rfl
  · obtain ⟨c, hc, -⟩ := record_of_context h hx
    exact kept_enterQuarantined hc _ h

/-- The VERIFY request of a context joins the FIFO (R65, R68). -/
theorem trustInv_sendVerify (d : Digest) : TrustInv (s.sendVerify i x d) := by
  have hset := trustInv_setContext (y := { x with step := .verify }) h hx hnone rfl
  unfold State.sendVerify
  dsimp only
  split
  · rename_i r hr
    obtain ⟨id, hid, hrequest⟩ := Option.bind_eq_some_iff.mp hr
    obtain ⟨c, hc, hidentity⟩ := Option.bind_eq_some_iff.mp hid
    have hfields : r.station = i ∧ r.keyIndex = id.keyIndex := by
      unfold verifyRequest at hrequest
      split at hrequest
      · obtain rfl := Option.some.inj hrequest
        exact ⟨rfl, rfl⟩
      · exact absurd hrequest (by simp)
    obtain ⟨hstation, hkey⟩ := hfields
    obtain ⟨hstations, ⟨hpairs, hrequests⟩, hslots⟩ := (trustInv_iff _).1 hset
    have hlive : liveRequests ((s.setContext i (some { x with step := .verify })).withAuth
        { (s.setContext i (some { x with step := .verify })).auth with
          fifo := (s.setContext i (some { x with step := .verify })).auth.fifo ++ [r] }) = liveRequests s ++ [r] :=
      (List.append_assoc ..).symm
    refine (trustInv_iff _).2 ⟨hstations, ⟨?_, fun v hv => ?_⟩, hslots⟩
    · rw [hlive, List.pairwise_append]
      refine ⟨hpairs, List.pairwise_singleton _ _, fun v hv w hw => ?_⟩
      rw [List.mem_singleton.mp hw, hstation]
      exact hnone v hv
    · rw [hlive, List.mem_append, List.mem_singleton] at hv
      rcases hv with hv | rfl
      · exact hrequests v hv
      · rw [hstation]
        exact ⟨⟨_, setContext_context s i _, rfl⟩, c, id, hc, hidentity, hkey.symm⟩
  · exact hset

end

/-! ## Identification (R12 to R14) -/

section
variable {s : State} {i : Station} {x : AuthContext}

/-- A recording of evidence outside ACTIVE, once for each kind. -/
theorem calm_foldl_recordEvidence (hl : (s.station i).lifecycle ≠ .active) (kinds : List EvidenceKind) :
    Calm s (kinds.foldl (fun s k => s.recordEvidence i k) s) := by
  induction kinds generalizing s with
  | nil => exact .refl s
  | cons k rest ih =>
    have hnoted := calm_recordEvidence hl k
    exact hnoted.trans (ih ((hnoted.records i).lifecycle ▸ hl))

theorem calm_reconcile (hl : (s.station i).lifecycle ≠ .active) (id : Identity) : Calm s (s.reconcile i id) := by
  have hfigures : Calm s (s.modCartridge i (fun c => c.reconciled id (s.departed.lookup id.serial))) := .modCartridge fun _ => rfl
  have hbanded := hfigures.trans (calm_computeBand _ i)
  have hmerged := hbanded.trans (.modCartridge (i := i) (f := CartridgeRecord.mergeEntry (s.departed.lookup id.serial)) fun c => by
    cases s.departed.lookup id.serial <;> rfl)
  exact hmerged.trans (calm_foldl_recordEvidence ((hmerged.records i).lifecycle ▸ hl) _)

section
variable (h : TrustInv s) (hx : s.context i = some x) (hrecheck : x.recheck = false)
include h hx hrecheck

theorem lifecycle_of_context : (s.station i).lifecycle = .identifying ∨ (s.station i).lifecycle = .authenticating := by
  obtain ⟨-, -, -, hcontext, -⟩ := h.stations i
  rcases hcontext x hx with ⟨hr, -⟩ | ⟨-, hl⟩
  · exact absurd (hr.symm.trans hrecheck) (by simp)
  · exact hl

variable (hstep : x.step ≠ .verify)
include hstep

theorem trustInv_enterAuthenticating (id : Identity) : TrustInv (s.enterAuthenticating i id) := by
  have hl := lifecycle_of_context h hx hrecheck
  have hcalm := calm_reconcile (i := i) (show (s.station i).lifecycle ≠ .active by rcases hl with hl | hl <;> simp [hl]) id
  have hreconciled := hcalm.kept h
  obtain ⟨y, hy, hface⟩ : ∃ y, (s.reconcile i id).context i = some y ∧ contextFace y = contextFace x :=
    Option.map_eq_some_iff.mp (by rw [hcalm.contexts, hx, Option.map_some])
  have hystep : y.step ≠ .verify := fun he => hstep ((congrArg Prod.fst hface).symm.trans he)
  have hyrecheck : y.recheck = false := (congrArg Prod.snd hface).trans hrecheck
  obtain ⟨c, hc, hcause⟩ := record_of_context hreconciled hy
  have hmoved : TrustInv ((s.reconcile i id).modStation i (fun r => { r with lifecycle := .authenticating })) :=
    trustInv_modStation hreconciled (fun z hz => Option.some.inj (hy.symm.trans hz) ▸ hystep)
      (hy ▸ stationAt_identifying (r := { (s.reconcile i id).station i with lifecycle := .authenticating }) hc
        (seatTimer_eq_false hreconciled (lifecycle_of_cartridge hreconciled hc).2) (.inr rfl) hyrecheck hcause)
      (slotAt_of_inactive nofun)
  unfold State.enterAuthenticating
  dsimp only
  split
  · rename_i z hz
    exact trustInv_beginAttempt hmoved hz (noRequest_of_context hmoved fun w hw => by
      obtain rfl := Option.some.inj (hy.symm.trans hw)
      exact hystep) rfl
  · exact hmoved

theorem trustInv_identifyCartridge (data : List Byte) : TrustInv (s.identifyCartridge i data) := by
  have hl := lifecycle_of_context h hx hrecheck
  obtain ⟨c, hc, hcause⟩ := record_of_context h hx
  have hknown : ((s.modCartridge i (CartridgeRecord.identified data)).station i).cartridge = some (c.identified data) := by simp [hc]
  have hidentified : TrustInv (s.modCartridge i (CartridgeRecord.identified data)) := by
    refine trustInv_modStation h (fun z hz => Option.some.inj (hx.symm.trans hz) ▸ hstep) ?_ (slotAt_of_inactive ?_)
    · rw [hx]
      exact stationAt_identifying (r := { s.station i with cartridge := (s.station i).cartridge.map (CartridgeRecord.identified data) })
        (c := c.identified data) (by simp [hc]) (seatTimer_eq_false h (lifecycle_of_cartridge h hc).2) hl
        hrecheck hcause
    · rcases hl with hl | hl <;> simp [hl]
  unfold State.identifyCartridge
  split_ifs
  · dsimp only
    split
    · exact kept_enterQuarantined hknown _ hidentified
    · exact trustInv_enterAuthenticating hidentified hx hrecheck hstep _
  · exact kept_enterQuarantined hc _ h

end

/-! ## The recheck's read (R79) -/

theorem trustInv_continueRecheck (h : TrustInv s) (hx : ∀ y, s.context i = some y → y.step ≠ .verify) (used : Nat) :
    TrustInv (s.continueRecheck i used) := by
  unfold State.continueRecheck
  split
  · rename_i y hy
    exact trustInv_beginAttempt h hy (noRequest_of_context h hx) rfl
  · exact h

theorem trustInv_recheckRead (h : TrustInv s) (hx : ∀ y, s.context i = some y → y.step ≠ .verify) (data : List Byte) :
    TrustInv (s.recheckRead i data) := by
  have hjudged : ∀ k, TrustInv (s.recordIfAny i k) ∧ ∀ y, (s.recordIfAny i k).context i = some y → y.step ≠ .verify := by
    intro k
    cases k with
    | none => exact ⟨h, hx⟩
    | some k =>
      refine ⟨kept_recordEvidence s i k h, fun y hy => ?_⟩
      rcases recordEvidence_context s i k with hnone | hsame
      · exact absurd (hy.symm.trans hnone) (by simp)
      · exact hx y (hsame ▸ hy)
  unfold State.recheckRead
  split
  · exact h
  · rename_i c hc
    split
    · split_ifs
      · obtain ⟨hkept, hopen⟩ := hjudged (recheckEvidence _ _)
        exact trustInv_continueRecheck hkept hopen _
      · exact kept_enterQuarantined hc _ h
    · exact h

/-! ## Results of AUTH jobs (R12, R65) -/

theorem kept_authResult (s : State) (i : Station) (r : JobResult) (data : List Byte) : Kept s (s.authResult i r data) := by
  intro h
  unfold State.authResult
  split
  · exact h
  · rename_i x hx
    obtain ⟨c, hc, -⟩ := record_of_context h hx
    have hnone : x.step ≠ .verify → NoRequest s i := fun hstep => noRequest_of_context h fun y hy =>
      Option.some.inj (hx.symm.trans hy) ▸ hstep
    split
    · rename_i hstep
      unfold State.readIdResult
      split
      · split_ifs with hrecheck
        · exact trustInv_recheckRead h (fun y hy => Option.some.inj (hx.symm.trans hy) ▸ by simp [hstep]) data
        · exact trustInv_identifyCartridge h hx (Bool.eq_false_iff.mpr hrecheck) (by simp [hstep]) data
      iterate 4 exact kept_enterQuarantined hc _ h
      all_goals exact h
    · rename_i hstep
      unfold State.challengeResult
      split
      · exact (calm_enqueue _ _).kept (trustInv_setContext h hx (hnone (by simp [hstep])) rfl)
      iterate 4 exact trustInv_endAttempt h hx (hnone (by simp [hstep])) _
      all_goals exact h
    · rename_i hstep
      unfold State.responseResult
      split
      · exact trustInv_sendVerify h hx (hnone (by simp [hstep])) _
      iterate 4 exact trustInv_endAttempt h hx (hnone (by simp [hstep])) _
      all_goals exact h
    · exact h

end
end Sys2Proof.Laws
end

section
set_option Elab.async false
/-! PROOFS. The laws of lifecycle, context and revoked slots: the digest unit, the ends of jobs, and the stations' own commands. -/

namespace Sys2Proof.Laws

open Sys2Proof.Machine Sys2Proof.Safety

theorem kept_ite {s a b : State} {p : Prop} [Decidable p] (ha : Kept s a) (hb : Kept s b) : Kept s (if p then a else b) := by
  split_ifs
  · exact ha
  · exact hb

/-! ## The digest unit (R68 to R70) -/

theorem calm_startVerify (s : State) : Calm s s.startVerify := by
  unfold State.startVerify
  split
  · rename_i r rest hcomputing hfifo
    have hlive : liveRequests (s.withAuth { s.auth with fifo := rest, computing := some ⟨r, s.expectedDigest r, false⟩ }) =
        liveRequests s := by
      rw [liveRequests, liveRequests, hcomputing, hfifo]
      rfl
    exact ⟨fun _ => .refl _, fun _ => rfl, hlive ▸ .refl _, rfl⟩
  · exact .refl s

theorem keyState_ne_revoked {s : State} {c : CartridgeRecord} {id : Identity} (hid : c.identity = some id)
    (h : s.keyState id.keyIndex ≠ some .revoked) : NamesNoRevoked s.store c := by
  intro k id' hid' hk hrevoked
  obtain rfl := Option.some.inj (hid.symm.trans hid')
  rw [hk, keyState_val, hrevoked] at h
  exact h rfl

section
variable {s : State} {i : Station} {x : AuthContext} (h : TrustInv s) (hx : s.context i = some x) (hnone : NoRequest s i)
include h hx hnone

/-- A recheck passes (R80). -/
theorem trustInv_recheckPass (hr : x.recheck = true) : TrustInv (s.recheckPass i) := by
  obtain ⟨c, hc, hcause⟩ := record_of_context h hx
  obtain ⟨-, -, -, hcontext, -⟩ := h.stations i
  have hl : (s.station i).lifecycle = .active := by
    rcases hcontext x hx with ⟨-, hl⟩ | ⟨hfirst, -⟩
    · exact hl
    · exact absurd (hr.symm.trans hfirst) (by simp)
  refine (calm_raise _ _ _ _).kept ((AlikeBut.setContext s none).trustInv h ?_ hnone (h.revocations i))
  rw [setContext_context]
  exact stationAt_settled (r := s.station i) hc (seatTimer_eq_false h (by simp [hl])) (.inl hl) hcause

/-- A first authentication passes (R15). -/
theorem trustInv_firstPass (hslots : ∀ c, (s.station i).cartridge = some c → NamesNoRevoked s.store c) : TrustInv (s.firstPass i) := by
  obtain ⟨c, hc, hcause⟩ := record_of_context h hx
  have hpassed : Calm s (s.modCartridge i CartridgeRecord.passed) := .modCartridge fun _ => rfl
  have hconsumed : ∀ serial, Calm s ((s.modCartridge i CartridgeRecord.passed).consumeDeparted serial) := fun serial =>
    hpassed.trans .untouched
  obtain ⟨u, hu, hcalm, hrecord⟩ : ∃ u, s.firstPass i = (u.setContext i none).moveAfterPass i c.passClass ∧ Calm s u ∧
      (u.station i).cartridge = some c.passed := by
    cases hid : c.identity with
    | none =>
      refine ⟨(s.modCartridge i CartridgeRecord.passed).writeCheckpoint i, by simp only [State.firstPass, hc, hid],
        hpassed.trans (calm_writeCheckpoint _ i), ?_⟩
      rw [station_congr (s := s.modCartridge i CartridgeRecord.passed) (by simp), modCartridge_station_same, hc, Option.map_some]
    | some id =>
      refine ⟨((s.modCartridge i CartridgeRecord.passed).consumeDeparted id.serial).writeCheckpoint i,
        by simp only [State.firstPass, hc, hid], (hconsumed id.serial).trans (calm_writeCheckpoint _ i), ?_⟩
      rw [station_congr (s := s.modCartridge i CartridgeRecord.passed) (by simp), modCartridge_station_same, hc, Option.map_some]
  have hkept := hcalm.kept h
  have hother : AlikeBut i u (u.setContext i none) := .setContext u none
  have hseat := seatTimer_eq_false hkept (lifecycle_of_cartridge hkept hrecord).2
  have hfree : NoRequest (u.setContext i none) i := fun v hv => hnone v (hcalm.live.subset hv)
  have hnames : NamesNoRevoked (u.setContext i none).store c.passed := fun k id hid hk => by
    have hkey : (u.setContext i none).store.keySlots = s.store.keySlots := hcalm.keys
    rw [hkey]
    exact hslots c hc k id hid hk
  have hquarantined := hother.trustInv_enterQuarantined hkept hrecord hseat (fun _ => hfree) .refill
  have hactive := hother.trustInv_enterActive hkept hrecord hseat hnames (setContext_context u i none) hfree
  rw [hu]
  unfold State.moveAfterPass
  split
  · exact hquarantined
  · exact hactive
  · exact hactive

end

/-- A completion (R70). -/
theorem kept_completeVerify (s : State) : Kept s s.completeVerify := by
  intro h
  unfold State.completeVerify
  split
  · exact h
  · rename_i v hcomputing
    have hlive : liveRequests s = (if v.withdrawn then [] else [v.request]) ++ s.auth.fifo := by rw [liveRequests, hcomputing]
    have hdone : Calm s (s.withAuth { s.auth with computing := none }) :=
      ⟨fun _ => .refl _, fun _ => rfl, hlive ▸ List.sublist_append_right _ _, rfl⟩
    have hkept := hdone.kept h
    dsimp only
    split_ifs with hw
    · exact hkept
    · rw [if_neg hw] at hlive
      obtain ⟨-, ⟨hpairs, hrequests⟩, -⟩ := (trustInv_iff s).1 h
      rw [hlive] at hpairs hrequests
      obtain ⟨⟨x, hx, -⟩, c, id, hc, hid, hkey⟩ := hrequests v.request (List.mem_append_left _ (List.mem_singleton_self _))
      have hnone : NoRequest (s.withAuth { s.auth with computing := none }) v.request.station := fun w hw =>
        ((List.pairwise_cons.mp hpairs).1 w hw).symm
      have hx' : (s.withAuth { s.auth with computing := none }).context v.request.station = some x := hx
      unfold State.verifyOutcome
      dsimp only
      split
      · exact hkept
      · rename_i y hy
        obtain rfl := Option.some.inj (hx'.symm.trans hy)
        split_ifs with hrevoked hequal hrecheck
        · exact kept_enterQuarantined (s := s.withAuth { s.auth with computing := none }) hc _ hkept
        · exact trustInv_recheckPass hkept hy hnone hrecheck
        · refine trustInv_firstPass hkept hy hnone fun c' hc' => ?_
          obtain rfl := Option.some.inj (hc.symm.trans hc')
          exact keyState_ne_revoked hid (hkey ▸ hrevoked)
        · exact trustInv_endAttempt hkept hy hnone _

/-! ## The ends of jobs (chapter 3) -/

section
variable (s : State) (i : Station)

theorem calm_withBus (b : Bus) : Calm s (s.withBus b) := .untouched

theorem calm_requestWriteBack (c : JobClass) : Calm s (s.requestWriteBack i c) := .untouched

theorem calm_enterDeparted : Calm s (s.enterDeparted i) := .untouched

theorem calm_queueDueJob : Calm s (s.queueDueJob i) := by
  unfold State.queueDueJob
  split
  · rename_i c hc
    exact .ite (.trans (t := s.setContext i (some { c with firstJobDue := false })) (.setContext hc rfl) (calm_enqueue _ _)) (.refl s)
  · exact .refl s

/-- A departure is completed (R20). -/
theorem kept_completeDeparture (failure : Option JobResult) : Kept s (s.completeDeparture i failure) := by
  intro h
  unfold State.completeDeparture
  split_ifs with hl
  · have hentered := calm_enterDeparted s i
    have hkept := hentered.kept h
    have hl' : ((s.enterDeparted i).station i).lifecycle = .departing := (hentered.records i).lifecycle.trans hl
    obtain ⟨c, hc⟩ := exists_cartridge (i := i) hkept (by simp [hl']) (by simp [hl'])
    have hreleased := trustInv_modStation_of_no_context (f := fun r => { r with lifecycle := .released }) hkept
      (context_eq_none hkept (by simp [hl']) (by simp [hl']) (by simp [hl']))
      (stationAt_settled hc (seatTimer_eq_false hkept (by simp [hl'])) (.inr (.inr rfl)) (cause_eq_none hkept hc (by simp [hl'])))
      (slotAt_of_inactive nofun)
    dsimp only
    split
    · exact (calm_raise _ _ _ _).kept hreleased
    · exact hreleased
  · exact h

theorem kept_writeBackFailed (cls : JobClass) (r : JobResult) : Kept s (s.writeBackFailed i cls r) := by
  have hnoted : Kept s (if r = .refused then s.recordEvidence i .conflict else s) := kept_ite (kept_recordEvidence s i _) id
  exact kept_ite (fun h => kept_completeDeparture _ i _ (hnoted h)) (kept_ite hnoted fun h => (calm_raise _ _ _ _).kept (hnoted h))

theorem kept_writeBackResult (j : Job) (r : JobResult) : Kept s (s.writeBackResult i j r) := by
  intro h
  have hwritten : Calm s ((s.recordWritten i j).writeCheckpoint i) := by
    refine .trans (t := s.recordWritten i j) ?_ (calm_writeCheckpoint _ i)
    unfold State.recordWritten
    split
    · exact .modCartridge fun _ => rfl
    · exact .refl s
  refine kept_ite id (fun h => ?_) h
  cases r with
  | done => exact kept_ite (fun h => kept_completeDeparture _ i _ (hwritten.kept h)) hwritten.kept h
  | nack | timeout | refused | busFault => exact kept_writeBackFailed s i _ _ h
  | removed | aborted => exact h

theorem calm_hostResult (j : Job) (r : JobResult) (data : List Byte) : Calm s (s.hostResult i j r data) := by
  unfold State.hostResult
  split
  · exact .untouched
  · exact .refl s

theorem kept_deliver (j : Job) (r : JobResult) (data : List Byte) : Kept s (s.deliver j r data) := by
  intro h
  unfold State.deliver
  split
  · exact h
  · split
    · exact h
    iterate 3 exact kept_ite id (kept_authResult s _ r data) h
    · exact kept_writeBackResult s _ j r h
    iterate 2 exact (calm_hostResult s _ j r data).kept h

theorem kept_retireJob (j : Job) (r : JobResult) (data : List Byte) : Kept s (s.retireJob j r data) := fun h =>
  kept_deliver _ j r data ((calm_withBus s _).kept h)

theorem calm_followOn (j : Job) (r : JobResult) : Calm s (s.followOn j r) := by
  unfold State.followOn
  split
  · exact .ite (calm_requestWriteBack s _ _) (.refl s)
  · exact .refl s

theorem calm_afterAuthJob (j : Job) : Calm s (s.afterAuthJob j) := by
  unfold State.afterAuthJob
  split
  · exact calm_queueDueJob s _
  · exact .refl s

theorem kept_endJob (j : Job) (r : JobResult) (data : List Byte) : Kept s (s.endJob j r data) := fun h =>
  (calm_afterAuthJob _ j).kept ((calm_followOn _ j r).kept (kept_retireJob s j r data h))

theorem kept_finishJob (j : Job) (r : JobResult) (data : List Byte) : Kept s (s.finishJob j r data) := by
  unfold State.finishJob
  split
  · exact kept_endJob s j _ _
  · exact kept_endJob s j _ _

theorem kept_failedAttempt (j : Job) (f : AttemptFailure) : Kept s (s.failedAttempt j f) := by
  unfold State.failedAttempt
  split
  · exact kept_endJob s j _ _
  · dsimp only
    split_ifs
    · exact kept_endJob s _ _ _
    · exact (calm_withBus s _).kept

theorem kept_loseArbitration (j : Job) : Kept s (s.loseArbitration j) := by
  have hforeign := calm_withBus s s.bus.foreign
  unfold State.loseArbitration
  dsimp only
  split
  · exact fun h => kept_endJob _ j _ _ (hforeign.kept h)
  · exact (hforeign.trans (calm_withBus _ _)).kept

theorem calm_startJob (j : Job) : Calm s (s.startJob j) := by
  unfold State.startJob
  split
  · exact (Calm.modCartridge (f := CartridgeRecord.rebased) fun _ => rfl).trans (calm_withBus _ _)
  · exact calm_withBus s _

theorem kept_stuck : Kept s s.stuck := by
  intro h
  have hfailed : TrustInv (match s.bus.activeJob with
      | some j => s.failedAttempt j .busFault
      | none => s) := by
    split
    · exact kept_failedAttempt s _ _ h
    · exact h
  exact (calm_withBus _ _).kept (kept_ite (calm_endCondition _ .busBlocked).kept id hfailed)

end
end Sys2Proof.Laws
end

section
set_option Elab.async false
/-! PROOFS. The laws of lifecycle, context and revoked slots: the stations' own commands and requests. -/

namespace Sys2Proof.Laws

open Sys2Proof.Machine Sys2Proof.Safety

/-! ## The presence input and the ink sense (R10, R21, R156) -/

section
variable (s : State) (i : Station)

theorem kept_whenInService {f : State → State} (hf : Kept s (f s)) : Kept s (s.whenInService f) := kept_ite hf id

theorem kept_whenRunning {f : State → State} (hf : Kept s (f s)) : Kept s (s.whenRunning f) := kept_ite hf id

/-- A station is seated. -/
theorem kept_seat (input : Bool) (hl : (s.station i).lifecycle = .vacant) : Kept s (s.modStation i (StationRec.seat input)) := by
  intro h
  obtain ⟨hnone, -⟩ := h.stations i
  exact trustInv_modStation_of_no_context h (context_eq_none h (by simp [hl]) (by simp [hl]) (by simp [hl]))
    (stationAt_empty (hnone.2 (.inl hl)) (removalTimer_eq_false h (.inl hl)) (.inl rfl)) (slotAt_of_inactive nofun)

theorem held_iff_not_empty (l : Lifecycle) : l.held = true ↔ l ≠ .vacant ∧ l ≠ .seated := by cases l <;> simp [Lifecycle.held]

theorem kept_stationRise (input : Bool) : Kept s (s.modStation i (StationRec.presenceRise input)) := by
  by_cases hl : (s.station i).lifecycle = .vacant
  · have hseat : s.modStation i (StationRec.presenceRise input) = s.modStation i (StationRec.seat input) := by
      rw [State.modStation, State.modStation, StationRec.presenceRise, if_pos hl]
    rw [hseat]
    exact kept_seat s i input hl
  · refine (Calm.modStation ?_).kept
    rw [StationRec.presenceRise, if_neg hl]
    split_ifs
    · exact ⟨rfl, id, nofun, rfl⟩
    · exact .refl _

theorem kept_stationFall : Kept s (s.modStation i StationRec.presenceFall) := by
  by_cases hl : (s.station i).lifecycle = .seated
  · intro h
    have hfall : StationRec.presenceFall (s.station i) = { s.station i with lifecycle := .vacant, seatTimer := false } := if_pos hl
    obtain ⟨hnone, -⟩ := h.stations i
    refine trustInv_modStation_of_no_context h (context_eq_none h (by simp [hl]) (by simp [hl]) (by simp [hl])) ?_ ?_
    · rw [hfall]
      exact stationAt_empty (hnone.2 (.inr hl)) (removalTimer_eq_false h (.inr hl)) (.inr ⟨rfl, rfl⟩)
    · rw [hfall]
      exact slotAt_of_inactive nofun
  · refine (Calm.modStation ?_).kept
    rw [StationRec.presenceFall, if_neg hl]
    split_ifs with hheld
    · exact ⟨rfl, id, fun _ => .inr ((held_iff_not_empty _).1 hheld), rfl⟩
    · exact .refl _

theorem kept_presenceRise : Kept s (s.presenceRise i) :=
  kept_ite id fun h => kept_whenInService (s.withPresence _) (kept_stationRise _ i _) ((Calm.untouched (s := s)).kept h)

theorem kept_presenceFall : Kept s (s.presenceFall i) :=
  kept_ite (fun h => kept_whenInService (s.withPresence _) (kept_stationFall _ i) ((Calm.untouched (s := s)).kept h)) id

theorem kept_settleInk : Kept s (s.settleInk i) := by
  have hread : Calm s (s.modStation i (fun r => { r with ink := r.ink.takeReading })) := .modStation ⟨rfl, id, .inl, rfl⟩
  have hstopped : Calm s (s.modStation i (fun r => { r with ink := { r.ink with settle := false } })) := .modStation ⟨rfl, id, .inl, rfl⟩
  exact kept_ite hstopped.kept (kept_ite (fun h => kept_recordEvidence _ i _ (hread.kept h)) hread.kept)

/-- The seat timer's expiry (R10). -/
theorem kept_seatTimerExpires : Kept s (s.seatTimerExpires i) := by
  intro h
  unfold State.seatTimerExpires
  split_ifs with hseated
  · have hl := hseated.1
    exact (calm_raise _ _ _ _).kept (trustInv_enterIdentifying h (context_eq_none h (by simp [hl]) (by simp [hl]) (by simp [hl])))
  · exact h

/-! ## A removal (R22) -/

theorem calm_authResult_removed : Calm s (s.authResult i .removed []) := by
  unfold State.authResult
  split
  · exact .refl s
  · split
    all_goals exact .refl s

theorem calm_writeBackResult_removed (j : Job) : Calm s (s.writeBackResult i j .removed) := .ite (.refl s) (.refl s)

/-- A job that ends REMOVED has no outcome but its entry. -/
theorem calm_retireJob_removed (j : Job) : Calm s (s.retireJob j .removed []) := by
  refine (calm_withBus s (s.bus.removeJob j.handle)).trans ?_
  unfold State.retireJob State.deliver
  split
  · exact .refl _
  · split
    · exact .refl _
    iterate 3 exact .ite (.refl _) (calm_authResult_removed _ _)
    · exact calm_writeBackResult_removed _ _ j
    iterate 2 exact calm_hostResult _ _ j _ _

theorem calm_removeJobs : Calm s (s.removeJobs i) := by
  have hfold : ∀ (jobs : List Job) (x : State), Calm x (jobs.foldl (fun x j => x.retireJob j .removed []) x) := by
    intro jobs
    induction jobs with
    | nil => exact fun x => .refl x
    | cons j rest ih => exact fun x => (calm_retireJob_removed x j).trans (ih _)
  exact (calm_withBus s _).trans (hfold _ _)

theorem clearContext_alikeBut : AlikeBut i s (s.clearContext i) ∧ NoRequest (s.clearContext i) i := by
  have hlive := liveRequests_withdrawVerify s i (s.clearContext i) rfl rfl
  exact ⟨⟨fun _ _ => rfl, fun _ hk => setContext_context_other (s := s.withAuth (s.auth.withdrawVerify i)) hk none,
    hlive ▸ List.filter_sublist, rfl⟩, noRequest_filter s i hlive⟩

theorem removeCartridge_frame : (s.removeCartridge i).stations = s.stations ∧ (s.removeCartridge i).auth = s.auth ∧
    (s.removeCartridge i).store = s.store := by
  unfold State.removeCartridge
  split <;> simp

theorem kept_tearDown (hheld : (s.station i).lifecycle.held = true) : Kept s (s.tearDown i) := by
  intro h
  obtain ⟨-, hseated⟩ := (held_iff_not_empty _).1 hheld
  have hremoved := calm_removeJobs s i
  obtain ⟨halike, hnone⟩ := clearContext_alikeBut (s.removeJobs i) i
  obtain ⟨hstations, hauth, hstore⟩ := removeCartridge_frame ((s.removeJobs i).clearContext i) i
  have hleft : AlikeBut i (s.removeJobs i) ((((s.removeJobs i).clearContext i).removeCartridge i).modStation i StationRec.vacated) :=
    (halike.trans (.untouched hstations hauth hstore)).trans (.modStation _ _)
  have hempty : ((((s.removeJobs i).clearContext i).removeCartridge i).context i) = none :=
    (context_congr hauth).trans (setContext_context _ i none)
  have hseat : ((((s.removeJobs i).clearContext i).removeCartridge i).station i).seatTimer = false := by
    rw [station_congr hstations]
    exact seatTimer_eq_false (s := s.removeJobs i) (hremoved.kept h) ((hremoved.records i).lifecycle ▸ hseated)
  refine (calm_raise _ _ _ _).kept (hleft.trustInv (hremoved.kept h) ?_ ?_ ?_)
  · rw [modStation_station_same, modStation_context, hempty]
    exact stationAt_empty rfl rfl (.inr ⟨rfl, hseat⟩)
  · intro v hv
    rw [liveRequests_congr (s := (s.removeJobs i).clearContext i) (by exact congrArg Auth.computing hauth)
      (by exact congrArg Auth.fifo hauth)] at hv
    exact hnone v hv
  · rw [modStation_station_same]
    exact slotAt_of_inactive nofun

end

/-! ## Requests (R17 to R19, R78) -/

section
variable (s : State) (i : Station)

/-- A release (R19). -/
theorem kept_release (hl : (s.station i).lifecycle = .active ∨ (s.station i).lifecycle = .quarantined) : Kept s (s.release i) := by
  intro h
  obtain ⟨c, hc⟩ := exists_cartridge (i := i) h (by rcases hl with hl | hl <;> simp [hl]) (by rcases hl with hl | hl <;> simp [hl])
  have hseat := seatTimer_eq_false (i := i) h (by rcases hl with hl | hl <;> simp [hl])
  have hstation : (s.abandonContext i).station i = s.station i := station_congr (by simp)
  have hleft : ∀ next, next = .departing ∨ next = .released → TrustInv ((s.abandonContext i).modStation i (StationRec.leave next)) := by
    intro next hnext
    refine ((abandonContext_alikeBut s i).trans (.modStation _ (StationRec.leave next))).trustInv h ?_
      (abandonContext_noRequest s i (noRequest_of_no_context h)) ?_
    · rw [modStation_station_same, modStation_context, abandonContext_context, hstation]
      exact stationAt_settled (c := { c with cause := none }) (by simp [StationRec.leave, hc]) hseat (.inr hnext) rfl
    · rw [modStation_station_same]
      exact slotAt_of_inactive (by rcases hnext with rfl | rfl <;> simp [StationRec.leave])
  exact kept_ite (fun _ => (calm_requestWriteBack _ i .depart).kept (hleft .departing (.inl rfl))) (fun _ => hleft .released (.inr rfl)) h

/-- A new identification (R18). -/
theorem kept_reidentify (hl : (s.station i).lifecycle = .quarantined ∨ (s.station i).lifecycle = .released) : Kept s (s.reidentify i) := by
  intro h
  have hx : s.context i = none :=
    context_eq_none h (by rcases hl with hl | hl <;> simp [hl]) (by rcases hl with hl | hl <;> simp [hl])
      (by rcases hl with hl | hl <;> simp [hl])
  have hwithdrawn : Calm s ((s.enterDeparted i).withdrawWriteBack i) := .untouched
  have hx' : ((s.enterDeparted i).withdrawWriteBack i).context i = none := (context_congr (by simp)).trans hx
  exact kept_ite (fun h => trustInv_enterIdentifying (hwithdrawn.kept h) hx') (fun h => trustInv_enterIdentifying h hx) h

theorem slotRevoked_of_admission {c : CartridgeRecord} (h : s.admission i c ≠ .refuse) : NamesNoRevoked s.store c := by
  intro k id hid hk hrevoked
  have hslot : s.slotRevoked c = true := slotRevoked_iff.2 ⟨id, hid, k, hk, hrevoked⟩
  unfold State.admission at h
  split at h
  · exact h (if_pos hslot)
  · exact h rfl

/-- An admission as UNVERIFIED (R17). -/
theorem trustInv_admitUnverified (h : TrustInv s) {c : CartridgeRecord} (hc : (s.station i).cartridge = some c)
    (hslots : NamesNoRevoked s.store c) (hx : s.context i = none) : TrustInv (s.admitUnverified i c) := by
  have hsupplied : Calm s (s.supplyFigures i c) := by
    refine .ite (.refl s) (.trans (.modCartridge fun c => ?_) (calm_computeBand _ i))
    unfold CartridgeRecord.supplied
    split <;> simp [recordFace, *]
  have hdisowned : Calm s ((s.supplyFigures i c).disown i c) := hsupplied.trans (.ite .untouched (.refl _))
  have hadmitted : Calm s (((s.supplyFigures i c).disown i c).modCartridge i
      (fun c => { c with authenticated := false, trust := .unverified })) := hdisowned.trans (.modCartridge fun _ => rfl)
  obtain ⟨c', hc', hface⟩ := Option.map_eq_some_iff.mp ((hadmitted.records i).record.trans (by rw [hc, Option.map_some]))
  have hx' := Option.map_eq_none_iff.mp ((hadmitted.contexts i).trans (by rw [hx, Option.map_none]))
  refine trustInv_enterActive (hadmitted.kept h) hc' (fun k id hid hk => ?_) hx'
  rw [hadmitted.keys]
  exact hslots k id ((congrArg Prod.snd hface).symm.trans hid) hk

end
end Sys2Proof.Laws
end

section
set_option Elab.async false
/-! PROOFS. The laws of lifecycle, context and revoked slots: the bus engine's rows, the tally receiver and the metering unit. -/

namespace Sys2Proof.Laws

open Sys2Proof.Machine Sys2Proof.Safety

section
variable (s : State)

/-! ## The bus engine (chapter 3) -/

theorem kept_onTransaction {f : State → Job → State} (hf : ∀ j, Kept s (f s j)) : Kept s (s.onTransaction f) := by
  unfold State.onTransaction
  split
  · exact kept_ite (hf _) id
  · exact id

theorem kept_onStatus {f : State → Job → State} (hf : ∀ j, Kept s (f s j)) : Kept s (s.onStatus f) := by
  unfold State.onStatus
  split
  · exact kept_ite (hf _) id
  · exact id

theorem calm_freeBus : Calm s s.freeBus := calm_withBus s _

theorem kept_freed_finishJob (j : Job) (r : JobResult) (data : List Byte) : Kept s (s.freeBus.finishJob j r data) := fun h =>
  kept_finishJob _ j r data ((calm_freeBus s).kept h)

theorem kept_freed_failedAttempt (j : Job) (f : AttemptFailure) : Kept s (s.freeBus.failedAttempt j f) := fun h =>
  kept_failedAttempt _ j f ((calm_freeBus s).kept h)

theorem kept_endTransaction (j : Job) (how : TransferEnd) : Kept s (s.endTransaction j how) := by
  unfold State.endTransaction
  split
  · exact kept_freed_finishJob s j _ _
  iterate 3 exact kept_ite (kept_freed_finishJob s j _ _) id
  iterate 3 exact kept_freed_failedAttempt s j _
  all_goals exact id

theorem kept_pollResponse (j : Job) : Kept s (s.pollResponse j) :=
  kept_ite ((calm_freeBus s).trans (calm_withBus _ _)).kept (kept_freed_failedAttempt s _ _)

theorem kept_endResponse (j : Job) (d : Option Digest) : Kept s (s.endResponse j d) := by
  cases d with
  | some d => exact kept_freed_finishJob s j _ _
  | none => exact kept_freed_failedAttempt s j _

theorem kept_endWritePhase (j : Job) (acknowledged : Bool) : Kept s (s.endWritePhase j acknowledged) :=
  kept_ite ((calm_freeBus s).trans (calm_withBus _ _)).kept (kept_freed_failedAttempt s _ _)

theorem kept_pollStatus (j : Job) : Kept s (s.pollStatus j) :=
  kept_ite ((calm_freeBus s).trans (calm_withBus _ _)).kept (kept_freed_failedAttempt s _ _)

theorem calm_endStatusWait (j : Job) : Calm s (s.endStatusWait j) := .ite (calm_withBus s _) (calm_withBus s _)

theorem kept_takeStatus (status : Byte) (j : Job) : Kept s (State.takeStatus status s j) :=
  kept_ite (kept_freed_finishJob s j _ _) (kept_ite (kept_freed_finishJob s j _ _) (kept_freed_failedAttempt s j _))

theorem kept_cutJob (j : Job) : Kept s (s.cutJob j) := by
  unfold State.cutJob
  split
  · exact fun h => kept_endJob _ j _ _ ((calm_freeBus s).kept h)
  · exact id

theorem kept_foreignStart : Kept s s.foreignStart := by
  unfold State.foreignStart
  split
  · exact kept_ite (calm_withBus s _).kept id
  · exact kept_onTransaction s (kept_loseArbitration s)
  all_goals exact id

theorem calm_continueBetween : Calm s s.continueBetween := .untouched

theorem calm_endRecovery (high : Bool) : Calm s (s.endRecovery high) := .untouched

theorem kept_idle : Kept s s.idle := kept_whenInService s (kept_ite (calm_continueBetween s).kept id)

/-- What a command does with the ACTIVE job, where there is one. -/
theorem kept_activeJob {f : Job → State} (hf : ∀ j, Kept s (f j)) : Kept s (match s.bus.activeJob with
    | some j => f j
    | none => s) := by
  split
  · exact hf _
  · exact id

/-! ## The tally receiver (chapter 5) and the metering unit (chapter 6) -/

theorem calm_withTally (t : Tally) : Calm s (s.withTally t) := .untouched

theorem calm_reportsArrival (width n value : Nat) : Calm s (reportsArrival width n value s) := .ite (calm_raiseCondition s _ _) (.refl s)

theorem calm_countMarkerError : Calm s s.countMarkerError := by
  rw [countMarkerError_eq]
  exact (calm_withTally s _).trans (calm_reportsArrival _ _ _ _)

theorem calm_countCheckError : Calm s s.countCheckError := by
  rw [countCheckError_eq]
  exact (calm_withTally s _).trans (calm_reportsArrival _ _ _ _)

theorem calm_confirmTest : Calm s s.confirmTest := by
  unfold State.confirmTest
  split
  · exact .ite (.refl s) (.ite (((calm_withTally s _).trans (calm_raise _ _ _ _)).trans (calm_endCondition _ _)) (calm_withTally s _))
  all_goals exact .refl s

theorem calm_judgeBad (e : Fin 8) : Calm s (s.judgeBad e) := by
  have hcounted := (calm_withTally s (s.tally.judgeBad e)).trans (calm_countMarkerError _)
  exact .ite hcounted (hcounted.trans ((calm_withTally _ _).trans (calm_raiseCondition _ _ _)))

theorem calm_judgeFrame : Calm s s.judgeFrame := by
  unfold State.judgeFrame
  split
  · exact .ite (.refl s) (.ite ((calm_withTally s _).trans (calm_withTally _ _)) ((calm_withTally s _).trans (calm_judgeBad _ _)))
  all_goals exact .refl s

theorem calm_handOn (c : CommittedCycle) : Calm s (s.handOn c) := .ite .untouched (.refl s)

theorem calm_attemptEstimate : Calm s s.attemptEstimate :=
  .ite ((calm_handOn s _).trans (calm_withTally _ _)) (calm_raiseCondition s _ _)

theorem calm_commitActual (c : CommittedCycle) : Calm s (s.commitActual c) :=
  ((calm_handOn s c).trans (calm_withTally _ _)).trans (calm_endCondition _ _)

theorem calm_endCycle : Calm s s.endCycle := by
  have hnoted : ∀ good, Calm s (s.noteCheck good) := fun good =>
    .ite (calm_withTally s _) ((calm_withTally s _).trans (calm_countCheckError _))
  have hdecided : ∀ (x : State) b good, Calm x (x.decideCycle b good) := fun x b good => .ite (calm_commitActual x _) (calm_attemptEstimate x)
  have hafter : ∀ x : State, Calm x x.afterCycle := fun x =>
    .ite ((calm_withTally x _).trans (calm_raiseCondition _ _ _)) (calm_withTally x _)
  unfold State.endCycle
  split
  · exact .refl s
  · exact .ite (((hnoted _).trans (hdecided _ _ _)).trans (hafter _)) (.refl s)

theorem calm_cycleTimerExpires : Calm s s.cycleTimerExpires := by
  unfold State.cycleTimerExpires
  split
  iterate 2 exact .refl s
  · exact calm_withTally s _
  all_goals exact (calm_attemptEstimate s).trans (calm_withTally _ _)

theorem calm_silenceExpires : Calm s s.silenceExpires := .ite ((calm_withTally s _).trans (calm_raiseCondition _ _ _)) (.refl s)

theorem calm_takeEdge (rising tld : Bool) : Calm s (s.takeEdge rising tld) := by
  unfold State.takeEdge
  split
  · exact (calm_withTally s _).trans (calm_endCondition _ _)
  · exact .refl s

theorem calm_configureLink (source : TallySource) (c : LinkConfig) : Calm s (s.configureLink source c) := by
  have hsource : ∀ (x : State) old, Calm x (x.applySource source old) := fun x old => by
    unfold State.applySource
    split
    · exact ((calm_withTally x _).trans (calm_endCondition _ _)).trans (calm_endCondition _ _)
    · exact calm_withTally x _
    · exact .refl x
    · exact .ite (.refl x) (calm_withTally x _)
  have hmarker : ∀ x : State, Calm x x.narrowMarkerErrors := fun x =>
    .ite ((calm_withTally x _).trans (calm_raiseCondition _ _ _)) (.refl x)
  have hcheck : ∀ x : State, Calm x x.narrowCheckErrors := fun x =>
    .ite ((calm_withTally x _).trans (calm_raiseCondition _ _ _)) (.refl x)
  have hwidth : ∀ (x : State) old, Calm x (x.applyWidth old) := fun x old => .ite ((hmarker x).trans (hcheck _)) (.refl x)
  exact ((calm_withTally s _).trans (hsource _ _)).trans (hwidth _ _)

theorem calm_computeCycle : Calm s s.computeCycle := by
  cases h : s.meter.cycles with
  | nil =>
    have hsame : s.computeCycle = s := by simp only [State.computeCycle, h]
    rw [hsame]
    exact .refl s
  | cons c rest =>
    obtain ⟨t, ht, hframe, -, -, hstation, -⟩ := computeCycle_eq h
    rw [ht]
    refine ⟨fun i => ?_, fun i => by rw [context_congr hframe.auth], ?_, by rw [hframe.store]⟩
    · rw [hstation i]
      exact ⟨rfl, id, .inl, rfl⟩
    · rw [liveRequests_congr (s := s) (t := t) (by rw [hframe.auth]) (by rw [hframe.auth])]

end
end Sys2Proof.Laws
end

section
set_option Elab.async false
/-! PROOFS. The laws of lifecycle, context and revoked slots: requests, the retained store, the halt and the start-up; every step. -/

namespace Sys2Proof.Laws

open Sys2Proof.Machine Sys2Proof.Safety

/-! ## Requests and answers (chapter 10) -/

section
variable (s : State)

theorem calm_withLink (h : HostLink) : Calm s (s.withLink h) := .untouched

theorem calm_answer (r : Request) (status : Status) (body : List Byte) : Calm s (s.answer r status body) := calm_withLink s _

theorem calm_answerDone (r : Request) : Calm s (s.answerDone r) :=
  .ite ((calm_answer s r _ _).trans (calm_withLink _ _)) (calm_answer s r _ _)

theorem calm_await (r : Request) : Calm s (s.await r) := calm_withLink s _

theorem kept_serve {kind : RequestKind} {f : State → Request → State} (hf : ∀ r, Kept s (f s r)) : Kept s (s.serve kind f) := by
  unfold State.serve
  refine kept_ite ?_ id
  split
  · exact kept_ite (hf _) id
  all_goals exact id

theorem calm_takeRequest : Calm s s.takeRequest := by
  unfold State.takeRequest
  split
  · dsimp only
    split
    · exact (calm_withLink s _).trans (calm_withLink _ _)
    · exact (calm_withLink s _).trans (calm_withLink _ _)
  · exact .refl s

theorem calm_withEvents (q : EventQueue) : Calm s (s.withEvents q) := .untouched

theorem calm_withWrites (ws : List StoreWrite) : Calm s (s.withWrites ws) := .untouched

variable (r : Request)

theorem calm_ownConfigPart : Calm s (s.ownConfigPart r) := by
  have hfold : ∀ (stations : List Station) (x : State), Calm x (stations.foldl State.computeBand x) := by
    intro stations
    induction stations with
    | nil => exact fun x => .refl x
    | cons i rest ih => exact fun x => (calm_computeBand x i).trans (ih _)
  have hpart : ∀ p, Calm s (s.withPart p) := fun p => .untouched
  have hstored : Calm s (s.storePart (readPartConfig r.body)) := .ite (hpart _) ((hpart _).trans (hfold _ _))
  exact hstored.trans (calm_answer _ r _ _)

theorem calm_ownGetStation : Calm s (s.ownGetStation r) := by
  have hcleared : Calm s (s.modStation (bodyStation r.body) StationRec.clearChanged) := by
    refine .modStation ⟨rfl, id, .inl, ?_⟩
    rw [StationRec.clearChanged, Option.map_map]
    rfl
  exact hcleared.trans (calm_answer _ r _ _)

theorem calm_ownConfigStation : Calm s (s.ownConfigStation r) := by
  have hstored : ∀ c input, Calm s (s.modStation (bodyStation r.body) (StationRec.configured c input)) := fun c input =>
    .modStation ⟨rfl, id, .inl, rfl⟩
  have hreserve : ∀ (x : State) i n, Calm x (x.applyReserve i n) := fun x i n =>
    .ite (.trans (t := x.modStation i (StationRec.lowerReserve n)) (.modStation ⟨rfl, id, .inl, rfl⟩) (calm_raiseCondition _ _ _))
      (.ite (calm_endCondition x _) (.refl x))
  exact ((hstored _ _).trans (hreserve _ _ _)).trans (calm_answer _ r _ _)

theorem kept_ownRelease : Kept s (s.ownRelease r) := by
  intro h
  unfold State.ownRelease
  dsimp only
  split
  · rename_i hl
    exact (calm_answer _ r _ _).kept (kept_release s _ (.inl hl) h)
  · rename_i hl
    exact (calm_answer _ r _ _).kept (kept_release s _ (.inr hl) h)
  all_goals exact (calm_answer s r _ _).kept h

theorem kept_ownAuthenticate : Kept s (s.ownAuthenticate r) := by
  intro h
  have hanswered := fun status => (calm_answer s r status []).kept h
  unfold State.ownAuthenticate
  dsimp only
  split
  · rename_i hl
    split_ifs with hrecheck
    · have hx : s.context (bodyStation r.body) = none := by
        simp only [State.canRecheck, State.hasContext, Bool.and_eq_true, Bool.not_eq_true', Option.isSome_eq_false_iff,
          Option.isNone_iff_eq_none] at hrecheck
        exact hrecheck.2
      exact (calm_answer _ r _ _).kept (trustInv_startRecheck h hl hx)
    · exact hanswered _
  · rename_i hl
    exact kept_reidentify (s.answer r .ok []) _ (.inl hl) (hanswered .ok)
  · rename_i hl
    exact kept_reidentify (s.answer r .ok []) _ (.inr hl) (hanswered .ok)
  all_goals exact hanswered _

theorem kept_ownAdmit : Kept s (s.ownAdmit r) := by
  intro h
  unfold State.ownAdmit
  dsimp only
  split
  · rename_i c hl hc
    have hx := context_eq_none (i := bodyStation r.body) h (by simp [hl]) (by simp [hl]) (by simp [hl])
    unfold State.admitQuarantined
    split
    · exact (calm_answer s r _ _).kept h
    · rename_i hadmission
      exact (calm_answer _ r _ _).kept
        (trustInv_enterActive h hc (slotRevoked_of_admission s _ (by rw [hadmission]; decide)) hx)
    · rename_i hadmission
      exact (calm_answer _ r _ _).kept
        (trustInv_admitUnverified s _ h hc (slotRevoked_of_admission s _ (by rw [hadmission]; decide)) hx)
  · exact (calm_answer s r _ _).kept h

theorem calm_queueHostJob (j : Job) : Calm s (s.queueHostJob r j) :=
  .ite (calm_answer s r _ _) ((calm_enqueue s j).trans (calm_answer _ r _ _))

theorem calm_ownTagRead : Calm s (s.ownTagRead r) :=
  .ite (calm_answer s r _ _) (.ite (calm_answer s r _ _) (calm_queueHostJob s r _))

theorem calm_ownTagWrite : Calm s (s.ownTagWrite r) :=
  .ite (calm_answer s r _ _) (.ite (calm_answer s r _ _) (calm_queueHostJob s r _))

theorem calm_ownGetJob : Calm s (s.ownGetJob r) := by
  unfold State.ownGetJob
  dsimp only
  split
  · exact (calm_withBus s _).trans (calm_answer _ r _ _)
  · split
    · exact calm_answer s r _ _
    · exact calm_answer s r _ _

theorem kept_ownAbortJob : Kept s (s.ownAbortJob r) := by
  unfold State.ownAbortJob
  split
  · have haborted : ∀ j, Kept s (s.abortJob j) := fun j => kept_ite (calm_withBus s _).kept (kept_endJob s j _ _)
    exact fun h => (calm_answer _ r _ _).kept (haborted _ h)
  · exact (calm_answer s r _ _).kept

theorem calm_ownRevokeKey : Calm s (s.ownRevokeKey r) := by
  unfold State.ownRevokeKey
  dsimp only
  split
  iterate 3 exact calm_answer s r _ _
  · exact (calm_withWrites s _).trans (calm_await _ r)

theorem calm_ownReadLink : Calm s (s.ownReadLink r) := by
  have hcleared : Calm s s.clearLinkCounters := (calm_withTally s _).trans (calm_endCondition _ _)
  exact (Calm.ite hcleared (.refl s)).trans (calm_answer _ r _ _)

theorem calm_ownTally : Calm s (s.ownTally r) := by
  unfold State.ownTally
  split
  · exact calm_answer s r _ _
  · exact (calm_commitActual s _).trans (calm_answer _ r _ _)

theorem calm_ownForget : Calm s (s.ownForget r) := by
  have hchanged : ∀ t, Calm s (s.forgetTo r t) := fun t => .untouched (t := s.forgetTo r t) rfl rfl rfl
  unfold State.ownForget
  split_ifs
  · exact hchanged _
  · split
    · exact hchanged _
    · exact calm_answer s r _ _

theorem calm_ownGetEvents : Calm s (s.ownGetEvents r) :=
  have hformed : ∀ (t : State) lost body, Calm t (t.formReply (replyKind r.code) r.tag .ok lost body) := fun t _ _ => calm_withLink t _
  ((calm_withEvents s _).trans (hformed _ _ _)).trans (calm_withEvents _ _)

theorem calm_ownSetVolumes : Calm s (s.ownSetVolumes r) := by
  have hstored : Calm s (s.modStation (bodyStation r.body) (fun x => { x with volumes := readVolumes r.body })) :=
    .modStation ⟨rfl, id, .inl, rfl⟩
  unfold State.ownSetVolumes
  dsimp only
  exact (hstored.trans (calm_endCondition _ _)).trans (calm_answer _ r _ _)

/-! ## The halt (R189, R191) -/

theorem calm_stop : Calm s s.stop := by
  refine ⟨fun i => ?_, fun _ => rfl, List.nil_sublist _, rfl⟩
  rw [stop_station]
  exact ⟨rfl, nofun, nofun, rfl⟩

theorem calm_answerAfter (before awaited : List StoreWrite) : Calm s (s.answerAfter r before awaited) := by
  cases awaited with
  | nil => exact calm_answerDone s r
  | cons w rest => exact (calm_withWrites s _).trans (calm_await _ r)

theorem calm_ownRestart : Calm s (s.ownRestart r) := by
  unfold State.ownRestart
  split
  · exact (calm_stop s).trans (calm_answerAfter _ r _ _)
  · exact calm_answerAfter s r _ _

end
end Sys2Proof.Laws
end

section
set_option Elab.async false
/-! PROOFS. The laws of lifecycle, context and revoked slots: a start-up, a completed write, and every command (O59). -/

namespace Sys2Proof.Laws

open Sys2Proof.Machine Sys2Proof.Safety

section
variable (s : State)

/-! ## A start-up and the end of a run (R187) -/

/-- The laws hold of a part whose stations are all empty and whose authentication engine is at its start. -/
theorem trustInv_of_empty {t : State} (hat : ∀ i, StationAt (t.station i) none) (hl : ∀ i, (t.station i).lifecycle ≠ .active)
    (hauth : t.auth = Auth.initial) : TrustInv t := by
  have hcontext : ∀ i, t.context i = none := fun i => by simp [State.context, hauth, Auth.initial]
  have hlive : liveRequests t = [] := by
    rw [liveRequests, hauth]
    rfl
  refine (trustInv_iff t).2 ⟨fun i => (hcontext i).symm ▸ hat i, ⟨hlive ▸ .nil, fun v hv => ?_⟩, fun i => slotAt_of_inactive (hl i)⟩
  rw [hlive] at hv
  exact absurd hv List.not_mem_nil

theorem trustInv_volatileReset : TrustInv s.volatileReset := by
  refine trustInv_of_empty (fun i => ?_) (fun i => ?_) rfl
  · rw [volatileReset_station]
    exact stationAt_empty rfl rfl (.inr ⟨rfl, rfl⟩)
  · rw [volatileReset_station]
    nofun

theorem trustInv_goDown (landed : Bool) : TrustInv (s.goDown landed) := trustInv_volatileReset _

theorem trustInv_startUp : TrustInv s.startUp := by
  obtain ⟨table, events, writes, records, heq, hrecords, -⟩ := startUp_eq s
  have hstation : ∀ i, s.startUp.station i = if s.presence[i] then { StationRec.initial with lifecycle := .seated, seatTimer := true }
      else StationRec.initial := fun i => by
    rw [← hrecords i, heq]
    rfl
  refine trustInv_of_empty (fun i => ?_) (fun i => ?_) (by rw [heq]; rfl)
  · rw [hstation]
    split_ifs
    · exact stationAt_empty rfl rfl (.inl rfl)
    · exact stationAt_empty rfl rfl (.inr ⟨rfl, rfl⟩)
  · rw [hstation]
    split_ifs <;> nofun

theorem kept_replySent : Kept s s.replySent := by
  unfold State.replySent
  split
  · exact id
  · dsimp only
    split
    · exact fun _ => trustInv_startUp _
    · exact (calm_withLink s _).kept

/-! ## A completed write (R74, R186) -/

/-- An entry to QUARANTINED neither reads nor writes the store. -/
theorem enterQuarantined_withStore (m : Retained) (i : Station) (cause : QuarantineCause) :
    (s.withStore m).enterQuarantined i cause = (s.enterQuarantined i cause).withStore m := by
  have habandon : ∀ t : State, (t.withStore m).abandonContext i = (t.abandonContext i).withStore m := by
    intro t
    unfold State.abandonContext
    cases hx : t.context i with
    | none => rw [show (t.withStore m).context i = none from hx]
    | some x => rw [show (t.withStore m).context i = some x from hx]; rfl
  unfold State.enterQuarantined
  rw [show (s.withStore m).modStation i (StationRec.quarantined cause)
    = (s.modStation i (StationRec.quarantined cause)).withStore m from rfl, habandon]
  rfl

theorem revokeAt_withStore (m : Retained) (slot : KeySlot) (i : Station) :
    (s.withStore m).revokeAt slot i = (s.revokeAt slot i).withStore m := by
  unfold State.revokeAt
  rw [enterQuarantined_withStore]
  exact (apply_ite (State.withStore · m) _ _ _).symm

theorem forStations_revokeAt_withStore (m : Retained) (slot : KeySlot) :
    (s.withStore m).forStations (State.revokeAt slot) = (s.forStations (State.revokeAt slot)).withStore m := by
  have hfold : ∀ (stations : List Station) (t : State),
      stations.foldl (State.revokeAt slot) (t.withStore m) = (stations.foldl (State.revokeAt slot) t).withStore m := by
    intro stations
    induction stations with
    | nil => exact fun t => rfl
    | cons i rest ih =>
      intro t
      rw [List.foldl_cons, List.foldl_cons, revokeAt_withStore]
      exact ih _
  exact hfold stationList s

theorem forStations_revokeAt_store (slot : KeySlot) : (s.forStations (State.revokeAt slot)).store = s.store := by
  have hcommutes := forStations_revokeAt_withStore s s.store slot
  have hsame : s.withStore s.store = s := rfl
  rw [hsame] at hcommutes
  exact (congrArg State.store hcommutes).trans (State.withStore_store _ _)

theorem kept_revokeAt (slot : KeySlot) (i : Station) : Kept s (s.revokeAt slot i) := by
  intro h
  unfold State.revokeAt
  split_ifs with hnamed
  · obtain ⟨c, hc⟩ := exists_cartridge h (i := i) (by simp [hnamed.1]) (by simp [hnamed.1])
    exact kept_enterQuarantined hc _ h
  · exact h

theorem kept_forStations_revokeAt (slot : KeySlot) : Kept s (s.forStations (State.revokeAt slot)) := by
  have hfold : ∀ (stations : List Station) (t : State), Kept t (stations.foldl (State.revokeAt slot) t) := by
    intro stations
    induction stations with
    | nil => exact fun t => id
    | cons i rest ih => exact fun t h => ih _ (kept_revokeAt t slot i h)
  exact hfold stationList s

/-- An ACTIVE station's record names the slot. -/
def NamesSlot (slot : KeySlot) (r : StationRec) : Prop :=
  r.lifecycle = .active ∧ (r.cartridge.bind (·.identity)).map (·.keyIndex) = some slot.val

theorem enterQuarantined_lifecycle (i : Station) (cause : QuarantineCause) :
    ((s.enterQuarantined i cause).station i).lifecycle = .quarantined := by
  rw [State.enterQuarantined, raise_station, station_congr (s := s.modStation i (StationRec.quarantined cause)) (by simp),
    modStation_station_same]
  rfl

theorem not_namesSlot_revokeAt (slot : KeySlot) (i : Station) : ¬ NamesSlot slot ((s.revokeAt slot i).station i) := by
  unfold State.revokeAt
  split_ifs with hnamed
  · rintro ⟨hl, -⟩
    rw [enterQuarantined_lifecycle] at hl
    cases hl
  · exact hnamed

/-- After a revocation no ACTIVE station's record names its slot (R74). -/
theorem not_namesSlot_forStations (slot : KeySlot) (i : Station) :
    ¬ NamesSlot slot ((s.forStations (State.revokeAt slot)).station i) := by
  have hfold : ∀ (stations : List Station) (t : State), i ∈ stations ∨ ¬ NamesSlot slot (t.station i) →
      ¬ NamesSlot slot ((stations.foldl (State.revokeAt slot) t).station i) := by
    intro stations
    induction stations with
    | nil => exact fun t h => h.resolve_left List.not_mem_nil
    | cons k rest ih =>
      intro t h
      refine ih _ ?_
      by_cases hk : i = k
      · subst hk
        exact .inr (not_namesSlot_revokeAt t slot i)
      · rw [revokeAt_station_other hk]
        exact h.imp_left fun hmem => (List.mem_cons.mp hmem).resolve_left hk
  have hall : ∀ k : Station, k ∈ stationList := by decide
  exact hfold stationList s (.inl (hall i))

/-- A slot's revocation, where no ACTIVE station's record names the slot. -/
theorem trustInv_withStore_revoked (h : TrustInv s) {slot : KeySlot} (hnone : ∀ i, ¬ NamesSlot slot (s.station i))
    {m : Retained} (hm : s.store = m) : TrustInv (s.withStore (m.apply (.keyRevoked slot))) := by
  subst hm
  obtain ⟨hstations, hrequests, hslots⟩ := (trustInv_iff s).1 h
  refine (trustInv_iff _).2 ⟨hstations, hrequests, fun i k c id hl hc hid hk => ?_⟩
  by_cases hks : k = slot
  · subst hks
    refine absurd ⟨hl, ?_⟩ (hnone i)
    rw [show (s.station i).cartridge = some c from hc, Option.bind_some, hid, Option.map_some, hk]
  · have hother : (s.store.apply (.keyRevoked slot)).keySlots[k] = s.store.keySlots[k] :=
      Vector.getElem_set_ne slot.isLt k.isLt fun hsk => hks (Fin.ext hsk.symm)
    rw [State.withStore_store, hother]
    exact hslots i k c id hl hc hid hk

theorem kept_answerWaiting (answers : Bool) : Kept s (s.answerWaiting answers) := by
  unfold State.answerWaiting
  split
  · exact (calm_answerDone s _).kept
  · exact id

theorem kept_completeWrite : Kept s s.completeWrite := by
  intro h
  unfold State.completeWrite
  split
  · exact h
  · next w rest _ =>
    have hcompleted : ∀ item, (s.store.apply item).keySlots = s.store.keySlots →
        Calm s ((s.withStore (s.store.apply item)).withWrites rest) := fun _ hkeys => ⟨fun _ => .refl _, fun _ => rfl, .refl _, hkeys⟩
    refine kept_answerWaiting _ _ ?_
    cases w.item with
    | keyRevoked slot =>
      have hrevoked : ((s.withStore (s.store.apply (.keyRevoked slot))).withWrites rest).forStations (State.revokeAt slot)
          = ((s.withWrites rest).forStations (State.revokeAt slot)).withStore (s.store.apply (.keyRevoked slot)) :=
        forStations_revokeAt_withStore (s.withWrites rest) _ slot
      rw [State.applyWritten, hrevoked]
      exact trustInv_withStore_revoked _ (kept_forStations_revokeAt _ slot ((calm_withWrites s rest).kept h))
        (not_namesSlot_forStations _ slot) (forStations_revokeAt_store _ slot)
    | departed t => exact (hcompleted (.departed t) rfl).kept h
    | checkpoint k c => exact (hcompleted (.checkpoint k c) rfl).kept h

/-! ## Every command -/

/-- An owner that the laws do not see. -/
theorem kept_serve_of_calm {kind : RequestKind} {f : State → Request → State} (hf : ∀ r, Calm s (f s r)) : Kept s (s.serve kind f) :=
  kept_serve s fun r => (hf r).kept

theorem kept_onLink (f : HostLink → HostLink) : Kept s (s.onLink f) := kept_whenRunning s (calm_withLink s _).kept

theorem calm_withResetN (x : Bool) : Calm s (s.withResetN x) := .untouched

theorem calm_withPowered (x : Bool) : Calm s (s.withPowered x) := .untouched

theorem calm_inkChange (i : Station) (level : Bool) : Calm s (s.inkChange i level) :=
  .ite (.modStation ⟨rfl, id, .inl, rfl⟩) (.refl s)

theorem kept_inkSenseChange (i : Station) (level : Bool) :
    Kept s (if s.inkInputs[i] = level then s
      else (s.withInkInputs (s.inkInputs.set i level)).whenInService (fun s => s.inkChange i level)) :=
  kept_ite id fun h => kept_whenInService (s.withInkInputs _) (calm_inkChange _ i level).kept ((Calm.untouched (s := s)).kept h)

theorem kept_removalTimerExpires (i : Station) :
    Kept s (if (s.station i).removalTimer && (s.station i).lifecycle.held then s.tearDown i else s) := by
  split_ifs with hdue
  · exact kept_tearDown s i (Bool.and_eq_true_iff.mp hdue).2
  · exact id

end

/-- Every command keeps the laws. -/
theorem exec_kept (c : Instr) (s : State) : ∃ t, exec c s = .next t ∧ Kept s t := by
  cases c with
  | powerOn => exact ⟨_, rfl, kept_ite id (kept_ite (fun _ => trustInv_startUp _) (calm_withPowered s _).kept)⟩
  | powerLoss landed => exact ⟨_, rfl, kept_ite (fun _ => (calm_withPowered _ _).kept (trustInv_goDown s landed)) id⟩
  | resetNFall landed =>
    have hdown : Kept s (if s.powered then s.goDown landed else s) := kept_ite (fun _ => trustInv_goDown s landed) id
    exact ⟨_, rfl, kept_ite (fun h => (calm_withResetN _ _).kept (hdown h)) id⟩
  | resetNRise => exact ⟨_, rfl, kept_ite id (kept_ite (fun _ => trustInv_startUp _) (calm_withResetN s _).kept)⟩
  | hlFrameComplete => exact ⟨_, rfl, kept_onLink s _⟩
  | gapTimerExpiry => exact ⟨_, rfl, kept_onLink s _⟩
  | lineError => exact ⟨_, rfl, kept_onLink s _⟩
  | hlByteReceived byte => exact ⟨_, rfl, kept_onLink s _⟩
  | takeRequest => exact ⟨_, rfl, kept_whenRunning s (calm_takeRequest s).kept⟩
  | replySent => exact ⟨_, rfl, kept_whenRunning s (kept_replySent s)⟩
  | retainedStoreWriteComplete => exact ⟨_, rfl, kept_whenRunning s (kept_completeWrite s)⟩
  | identify => exact ⟨_, rfl, kept_serve_of_calm s fun r => calm_answer s r _ _⟩
  | getStatus => exact ⟨_, rfl, kept_serve_of_calm s fun r => calm_answer s r _ _⟩
  | configPart => exact ⟨_, rfl, kept_serve_of_calm s (calm_ownConfigPart s)⟩
  | getStation => exact ⟨_, rfl, kept_serve_of_calm s (calm_ownGetStation s)⟩
  | configStation => exact ⟨_, rfl, kept_serve_of_calm s (calm_ownConfigStation s)⟩
  | release => exact ⟨_, rfl, kept_serve s (kept_ownRelease s)⟩
  | tagRead => exact ⟨_, rfl, kept_serve_of_calm s (calm_ownTagRead s)⟩
  | tagWrite => exact ⟨_, rfl, kept_serve_of_calm s (calm_ownTagWrite s)⟩
  | getJob => exact ⟨_, rfl, kept_serve_of_calm s (calm_ownGetJob s)⟩
  | abortJob => exact ⟨_, rfl, kept_serve s (kept_ownAbortJob s)⟩
  | authenticate => exact ⟨_, rfl, kept_serve s (kept_ownAuthenticate s)⟩
  | admitCartridge => exact ⟨_, rfl, kept_serve s (kept_ownAdmit s)⟩
  | revokeKey => exact ⟨_, rfl, kept_serve_of_calm s (calm_ownRevokeKey s)⟩
  | configLink => exact ⟨_, rfl, kept_serve_of_calm s fun r => (calm_configureLink s _ _).trans (calm_answer _ r _ _)⟩
  | readLink => exact ⟨_, rfl, kept_serve_of_calm s (calm_ownReadLink s)⟩
  | tally => exact ⟨_, rfl, kept_serve_of_calm s (calm_ownTally s)⟩
  | setVolumes => exact ⟨_, rfl, kept_serve_of_calm s (calm_ownSetVolumes s)⟩
  | listDeparted => exact ⟨_, rfl, kept_serve_of_calm s fun r => calm_answer s r _ _⟩
  | forget => exact ⟨_, rfl, kept_serve_of_calm s (calm_ownForget s)⟩
  | getEvents => exact ⟨_, rfl, kept_serve_of_calm s (calm_ownGetEvents s)⟩
  | setMask => exact ⟨_, rfl, kept_serve_of_calm s fun r => (calm_withEvents s _).trans (calm_answer _ r _ _)⟩
  | shutdown => exact ⟨_, rfl, kept_serve_of_calm s fun r => (calm_stop s).trans (calm_answerAfter _ r _ _)⟩
  | restart => exact ⟨_, rfl, kept_serve_of_calm s (calm_ownRestart s)⟩
  | presenceAsserted k => exact ⟨_, rfl, kept_presenceRise s k⟩
  | presenceDeasserted k => exact ⟨_, rfl, kept_presenceFall s k⟩
  | presenceReasserted k => exact ⟨_, rfl, kept_presenceRise s k⟩
  | seatTimerExpiry k => exact ⟨_, rfl, kept_whenInService s (kept_seatTimerExpires s k)⟩
  | removalTimerExpiry k => exact ⟨_, rfl, kept_whenInService s (kept_removalTimerExpires s k)⟩
  | inkSenseChange k level => exact ⟨_, rfl, kept_inkSenseChange s k level⟩
  | inkSettleExpiry k => exact ⟨_, rfl, kept_whenInService s (kept_ite (kept_settleInk s k) id)⟩
  | arbiterStartJob =>
    refine ⟨_, rfl, kept_whenInService s (kept_ite ?_ id)⟩
    split
    · exact (calm_startJob s _).kept
    · exact id
  | jobTransactionEnd how => exact ⟨_, rfl, kept_whenRunning s (kept_onTransaction s fun j => kept_endTransaction s j how)⟩
  | responsePoll => exact ⟨_, rfl, kept_whenRunning s (kept_onTransaction s fun j => kept_ite (kept_pollResponse s j) id)⟩
  | responseReadEnd response =>
    exact ⟨_, rfl, kept_whenRunning s (kept_onTransaction s fun j => kept_ite (kept_endResponse s j response) id)⟩
  | pollTimerExpiry h => exact ⟨_, rfl, kept_whenRunning s (calm_withBus s _).kept⟩
  | retryTimerExpiry h => exact ⟨_, rfl, kept_whenRunning s (calm_withBus s _).kept⟩
  | writePhaseEnd acknowledged =>
    exact ⟨_, rfl, kept_whenRunning s (kept_onTransaction s fun j => kept_ite (kept_endWritePhase s j acknowledged) id)⟩
  | statusPoll => exact ⟨_, rfl, kept_whenRunning s (kept_onStatus s (kept_pollStatus s))⟩
  | statusPollWaitExpiry =>
    exact ⟨_, rfl, kept_whenRunning s (kept_activeJob s fun j => kept_ite (calm_endStatusWait s j).kept id)⟩
  | statusRead status => exact ⟨_, rfl, kept_whenRunning s (kept_onStatus s (kept_takeStatus s status))⟩
  | jobCutAtByteBoundary => exact ⟨_, rfl, kept_whenRunning s (kept_onTransaction s (kept_cutJob s))⟩
  | arbitrationLost => exact ⟨_, rfl, kept_whenRunning s (kept_activeJob s fun j => kept_ite (kept_loseArbitration s j) id)⟩
  | foreignStart => exact ⟨_, rfl, kept_whenRunning s (kept_foreignStart s)⟩
  | stopCondition =>
    have hfree : Calm s (s.freeBus.endCondition .busBlocked) := (calm_freeBus s).trans (calm_endCondition _ _)
    exact ⟨_, rfl, kept_whenInService s (kept_ite (hfree.trans (calm_continueBetween _)).kept id)⟩
  | foreignTimeout =>
    exact ⟨_, rfl, kept_whenInService s (kept_ite ((calm_withBus s _).trans (calm_raiseCondition _ _ _)).kept id)⟩
  | stuckBus =>
    refine ⟨_, rfl, kept_whenInService s ?_⟩
    split
    iterate 3 exact kept_stuck s
    all_goals exact id
  | recoveryEnd high => exact ⟨_, rfl, kept_whenRunning s (kept_ite (calm_endRecovery s high).kept id)⟩
  | faultRetryExpiry high => exact ⟨_, rfl, kept_whenInService s (kept_ite (calm_endRecovery s high).kept id)⟩
  | verifyComputationStart => exact ⟨_, rfl, kept_whenInService s (calm_startVerify s).kept⟩
  | verifyCompletion => exact ⟨_, rfl, kept_whenInService s (kept_completeVerify s)⟩
  | huntMatch => exact ⟨_, rfl, kept_whenInService s (calm_withTally s _).kept⟩
  | candidateTest => exact ⟨_, rfl, kept_whenInService s (calm_withTally s _).kept⟩
  | confirmTest => exact ⟨_, rfl, kept_whenInService s (calm_confirmTest s).kept⟩
  | frameJudged => exact ⟨_, rfl, kept_whenInService s (calm_judgeFrame s).kept⟩
  | framePositionComplete => exact ⟨_, rfl, kept_whenInService s (calm_withTally s _).kept⟩
  | cycleEnd => exact ⟨_, rfl, kept_whenInService s (calm_endCycle s).kept⟩
  | cycleTimerExpiry => exact ⟨_, rfl, kept_whenInService s (calm_cycleTimerExpires s).kept⟩
  | silenceTimerExpiry => exact ⟨_, rfl, kept_whenInService s (calm_silenceExpires s).kept⟩
  | cycleComputation => exact ⟨_, rfl, kept_whenRunning s (calm_computeCycle s).kept⟩
  | wDelivery k => exact ⟨_, rfl, kept_whenRunning s (kept_takeDelivery s k)⟩
  | tlcEdge rising tld => exact ⟨_, rfl, kept_whenInService s (calm_takeEdge s rising tld).kept⟩

/-- Settles O59: idling and every command keep the laws. -/
theorem stepsKeepTheTrustLaws : Obligations.StepsKeepTheTrustLaws := by
  intro s t h hs
  rcases goesTo_step h with ⟨-, rfl⟩ | ⟨c, rest, -, hexec⟩
  · exact kept_idle s hs
  · obtain ⟨t', ht', hkept⟩ := exec_kept c (s.withPending rest)
    obtain rfl : t' = t := Host.Outcome.next.inj (ht'.symm.trans hexec)
    exact hkept ((Calm.untouched (s := s)).kept hs)

end Sys2Proof.Laws
end
